-- ==== Sys2Proof/Word.lean ====
section
/-!
DEFINITION. The words of the E428 and their plainest arithmetic: bytes, 16-bit registers, the 32-bit tick counter,
saturating counts, and the comparison of due ticks of rule R78.
-/

namespace Sys2Proof

/-- A byte of a frame, a message or a record. -/
abbrev Byte := BitVec 8

/-- A register of the register window: 16 bits (Conventions of 00_scope, R176). -/
abbrev Word := BitVec 16

/-- A value of the tick counter: 32 bits, wrapping (R1, R171). -/
abbrev Tick := BitVec 32

/-- A saturating counter stops at its maximum and never wraps (Conventions of 00_scope). -/
def satInc {w : Nat} (x : BitVec w) : BitVec w :=
  if x = BitVec.allOnes w then x else x + 1

/-- One less, but not below 0. -/
def satDec {w : Nat} (x : BitVec w) : BitVec w :=
  if x = 0 then 0 else x - 1

/-- A bit as a number of any width. -/
def bit {w : Nat} (b : Bool) : BitVec w := if b then 1 else 0

end Sys2Proof
end

