-- ==== Sys2Proof/Syntax.lean ====
section
/-!
DEFINITION. The commands of the E428: one constructor of `Instr` for each row of spec/opcode_table.json, with the operands
the row needs. A host-port row carries the frame the host sends, so that the port can judge it by R6 (log 3). A row that is a
step inside a tick batch names the unit it concerns (log 4).
-/

namespace Sys2Proof

/-- A source number, S0 to S55 (section 4.1). -/
abbrev SrcId := Fin 56

/-- The six bytes of a well-formed frame, numbered in the order received (R3). -/
structure RawFrame where
  b0 : Byte
  b1 : Byte
  b2 : Byte
  b3 : Byte
  b4 : Byte
  b5 : Byte
deriving DecidableEq, Repr

/-- When nCS was asserted for a frame: after the response slot had been loaded; before that, so that SDO shows zeros for the
whole frame (R12); or before the last reset had ended, so that the port ignores the frame (R20; log 38). -/
inductive FrameStart where
  | onTime
  | early
  | beforeResetEnd
deriving DecidableEq, Repr

/-- What every command frame carries beside its command and argument: its tag (R4), and when nCS was asserted for it. -/
structure FrameHead where
  tag : BitVec 3
  start : FrameStart
deriving DecidableEq, Repr

/-- The three read-to-clear registers of the link's counts (R51). -/
inductive LinkCountReg where
  | errcnt
  | foreign
  | seqcnt
deriving DecidableEq, Repr

/-- How far a tick batch has come: so many of the seven units of Stage A, of the 56 records of Stage B, of the dispatches of
Stage C, of the steps of Stage D, or all of Stage E (R69 to R73; log 39). -/
inductive BatchPoint where
  | units (n : Nat)
  | records (n : Nat)
  | dispatches (n : Nat)
  | timers (n : Nat)
  | outputs
deriving DecidableEq, Repr

/-- What can reset the device while it runs a batch: the supply, or nRST (R165). -/
inductive ResetCause where
  | supply
  | nrst
deriving DecidableEq, Repr

/-- A reset that begins while a tick batch is in progress: its cause, and how far the batch has come (R165; log 39). -/
structure BatchCut where
  cause : ResetCause
  point : BatchPoint
deriving DecidableEq, Repr

/-- The two banks of the Profile Store (R152). -/
inductive BankId where
  | bankA
  | bankB
deriving DecidableEq, Repr

/-- What damages the content of nonvolatile memory after it was written: bits flipped in the check of a slot's claim or in the
check code of its body (R135), or bits flipped in the check code of a bank, which then becomes DAMAGED (R152, R162; logs 34, 35). -/
inductive NvDamage where
  | claim (slot : Fin 4) (flips : Byte)
  | body (slot : Fin 4) (flips : Word)
  | code (bank : BankId) (flips : Word)
deriving DecidableEq, Repr

/-- What a tick batch finds outside the device as it begins (log 5). `windowEnd`: a window of the reference oscillator has
ended since the last batch (R172). `nvDone`: the nonvolatile operation in progress has finished its work (R137, R139, R153,
R160; log 6). `compFault`: the comparators that fail to report on their test reference (ST4 of R169). `refPeriods`: the
reference periods counted across a self-test step (ST5 of R169). `cut`: the reset that abandons the batch, if one does
(R165). `damage`: what nonvolatile memory has suffered since the last batch (R135, R162). -/
structure TickInputs where
  fl : BitVec 16
  hb : BitVec 4
  outPins : BitVec 8
  windowEnd : Bool
  nvDone : Bool
  compFault : BitVec 8
  refPeriods : Nat
  cut : Option BatchCut
  damage : List NvDamage
deriving DecidableEq, Repr

/-- What LRX shows at the middles of successive bit times, the first one first (R40). A bit time is counted from the fall that may be a
start bit, so a level outside a byte is low for a recognised start bit, and high for a fall that has returned high. -/
abbrev LrxLevels := List Bool

/-- The commands, in the order of spec/opcode_table.json. -/
inductive Instr where
  -- the tick, the resets and the oscillator
  | tickBatch (inp : TickInputs)
  /-- Between batches; a power-on reset that begins while a batch is in progress is `cut` of that batch (R165). -/
  | por
  /-- nRST low, between batches, for this many nanoseconds at least; longer lows are ended by `resetEnd`. A pin reset that begins
  while a batch is in progress is `cut` of that batch (R165). -/
  | pinReset (lowNs : Nat)
  | resetEnd
  | oscillatorStart
  -- frames named by what the port makes of them
  /-- All the bits clocked in while nCS was asserted, the first one first (R3). -/
  | rejLength (start : FrameStart) (bits : List Bool)
  | rejCrc (start : FrameStart) (f : RawFrame)
  | rejFormat (start : FrameStart) (f : RawFrame)
  | rejTag (h : FrameHead) (code : Byte) (arg : BitVec 24)
  | retransmission (h : FrameHead) (code : Byte) (arg : BitVec 24)
  | rejCommand (h : FrameHead) (code : Byte) (arg : BitVec 24)
  -- command frames
  | nop (h : FrameHead) (arg : BitVec 24)
  | writeReg (h : FrameHead) (addr : Byte) (data : Word)
  | archSelWrite (h : FrameHead) (data : Word)
  | tickLoRead (h : FrameHead)
  | tickHiRead (h : FrameHead)
  | hbCaptRead (h : FrameHead) (ch : Fin 4)
  | linkStatRead (h : FrameHead)
  | linkCountRead (h : FrameHead) (r : LinkCountReg)
  | hportErrcntRead (h : FrameHead)
  | clearSource (h : FrameHead) (arg : BitVec 24)
  | inject (h : FrameHead) (arg : BitVec 24)
  | raiseSw (h : FrameHead) (arg : BitVec 24)
  | lowerSw (h : FrameHead) (arg : BitVec 24)
  | purgeNode (h : FrameHead) (arg : BitVec 24)
  | ackSafe (h : FrameHead) (arg : BitVec 24)
  | releaseSafe (h : FrameHead) (arg : BitVec 24)
  | service (h : FrameHead) (arg : BitVec 24)
  | popJournal (h : FrameHead) (arg : BitVec 24)
  | peekJournal (h : FrameHead) (arg : BitVec 24)
  | openSession (h : FrameHead) (arg : BitVec 24)
  | closeApply (h : FrameHead) (arg : BitVec 24)
  | closeDiscard (h : FrameHead) (arg : BitVec 24)
  | commitProfile (h : FrameHead) (arg : BitVec 24)
  | resetCounts (h : FrameHead) (arg : BitVec 24)
  | clearArchive (h : FrameHead) (arg : BitVec 24)
  | runSelftest (h : FrameHead) (arg : BitVec 24)
  | enterStandby (h : FrameHead) (arg : BitVec 24)
  | wake (h : FrameHead) (arg : BitVec 24)
  | softReset (h : FrameHead) (arg : BitVec 24)
  -- steps inside a tick batch
  | qualification (n : Fin 16)
  | lineRelease (n : Fin 16)
  | heartbeatLate (n : Fin 4)
  | silent (n : Fin 8)
  | beaconTimer
  | windowEvaluation
  | missingReference
  | settleAllowanceEnd (i : Fin 8)
  | mismatchQualified (i : Fin 8)
  | mismatchWithdrawn (i : Fin 8)
  | exchange
  | expiry
  | ackDeadlineExpiry
  | pulseStart
  | pulseEnd
  | cut
  | dwellEnd
  | epMinEnd
  | automaticRelease
  | closedPhaseEnd
  | watchdogLate
  | selftestStepCompletion (compFault : BitVec 8) (refPeriods : Nat)
  | profileLoadCompletion
  | nvOperationBegin
  | archiveWriteCompletion
  | archiveErasureCompletion
  | commitCompletion
  | unlockWindowExpiry
  | sessionLimitExpiry
  | wakeRequest
  | wakingEnd
  -- the link, between batches
  /-- What LRX shows in the places of a message's four bytes, one after the other: ten levels each for a whole message, fewer for a
  message of which no more has arrived yet (R40, R41; log 43). -/
  | peerEventMessage (b0 b1 b2 b3 : LrxLevels)
  | framingError
  | truncated
  | earlyRun
  | receiverReady
  | intake
  | startBitWake
  | messageIntoFlight
  | messageLeavesFlight
  | mainOscillatorStop
deriving DecidableEq, Repr

end Sys2Proof
end

