-- ==== Sys2Proof/Decode.lean ====
section
/-!
DEFINITION. The decoder over the bits of spec/opcode_table.json. No row of that table gives bits: the commands reach the
device as frames, messages, pins and clocks, not as words of an instruction memory (log 2).
-/

namespace Sys2Proof

/-- The command that a word of the opcode table's bits spells: none, since no row gives bits (log 2). -/
def decodeTableWord (_nbits _w : Nat) : Option Instr := none

end Sys2Proof
end

