-- ==== Sys2Proof/Machine/Profile.lean ====
section
/-!
DEFINITION. The profile: everything the host can configure (R151), field by field with the values the owning chapters give,
the Default Profile (R154) and the two checks of CLOSE_APPLY and COMMIT_PROFILE (R158).
-/

namespace Sys2Proof.Machine

/-- CLASS of a descriptor and effective class of an occurrence (R65, R67). -/
inductive Cls where
  | notice
  | alarm
  | critical
deriving DecidableEq, Repr

/-- RECOVERY of a descriptor (R67). -/
inductive Recovery where
  | auto
  | host
deriving DecidableEq, Repr

/-- A descriptor of the Event Descriptor Table (R67). -/
structure Desc where
  enable : Bool
  cls : Cls
  plan : Fin 8
  priority : BitVec 4
  alarmTime : Byte
  recovery : Recovery
  promoteAt : BitVec 4
  notify : Bool
deriving DecidableEq, Repr

/-- A reaction plan (R89). `hrst` is HRST PULSE. -/
structure Plan where
  ssoMask : BitVec 4
  epFault : Bool
  hrst : Bool
  hrstDelay : Byte
  hrstPulse : Byte
  pwrCut : Bool
  pwrDelay : Byte
  dwell : Byte
  ack : Bool
  autoRelease : Bool
deriving DecidableEq, Repr

/-- MODE of a fault line (section 2.2). -/
inductive FlMode where
  | level
  | pulse
deriving DecidableEq, Repr

/-- Configuration of a fault line (section 2.2). `activeHigh` is POLARITY ACTIVE_HIGH. -/
structure FlCfg where
  activeHigh : Bool
  mode : FlMode
  filt : BitVec 4
  wake : Bool
deriving DecidableEq, Repr

/-- EDGE of a heartbeat channel (section 2.3). -/
inductive HbEdge where
  | rising
  | falling
  | both
deriving DecidableEq, Repr

/-- Configuration of a heartbeat channel (section 2.3), in ticks. -/
structure HbCfg where
  enable : Bool
  edge : HbEdge
  min : Word
  max : Word
deriving DecidableEq, Repr

/-- Configuration of the peer link (chapter 3). -/
structure LinkCfg where
  enable : Bool
  wake : Bool
  ownNode : Fin 8
  nodeMask : BitVec 8
  beaconPeriod : Byte
  timeout : Byte
  errLimit : BitVec 4
deriving DecidableEq, Repr

/-- Configuration of the Service Watchdog (chapter 7). -/
structure WdCfg where
  enable : Bool
  closed : Byte
  opn : Byte
  initial : Byte
  limit : BitVec 3
  mask : Byte
deriving DecidableEq, Repr

/-- EP_PROTO (chapter 9). -/
inductive EpProto where
  | static
  | antiphase
deriving DecidableEq, Repr

/-- Configuration of the error signal pair (chapter 9). -/
structure EpCfg where
  proto : EpProto
  half : Byte
  min : Byte
deriving DecidableEq, Repr

/-- Configuration of the Acknowledge and Escalation unit (chapter 6). -/
structure SupCfg where
  ackLimit : Byte
  escCeiling : BitVec 2
deriving DecidableEq, Repr

/-- JRN_POLICY (chapter 8). -/
inductive JrnPolicy where
  | keepOldest
  | keepNewest
deriving DecidableEq, Repr

/-- Configuration of the journal (chapter 8). -/
structure JrnCfg where
  policy : JrnPolicy
  attnLevel : BitVec 6
deriving DecidableEq, Repr

/-- Configuration of read-back supervision (chapter 9). -/
structure OsvCfg where
  mask : BitVec 8
  filter : BitVec 4
deriving DecidableEq, Repr

/-- A profile: all configuration and nothing else (R151). -/
structure Profile where
  desc : Vector Desc 56
  plans : Vector Plan 8
  fl : Vector FlCfg 16
  hb : Vector HbCfg 4
  link : LinkCfg
  wd : WdCfg
  ep : EpCfg
  sup : SupCfg
  jrn : JrnCfg
  osv : OsvCfg
  stAtInit : Bool
  profLock : Bool
deriving DecidableEq, Repr

/-- An enabled CRITICAL descriptor of the Default Profile (R154). -/
def defaultCritical : Desc :=
  { enable := true, cls := .critical, plan := 0, priority := 8, alarmTime := 100, recovery := .host, promoteAt := 0,
    notify := true }

/-- The descriptors of S16 to S43 in the Default Profile (R154). -/
def defaultDisabled : Desc :=
  { enable := false, cls := .notice, plan := 0, priority := 8, alarmTime := 100, recovery := .auto, promoteAt := 0,
    notify := false }

/-- The descriptor of S50 in the Default Profile (R154). -/
def defaultJournalFull : Desc :=
  { enable := true, cls := .notice, plan := 0, priority := 8, alarmTime := 100, recovery := .auto, promoteAt := 0,
    notify := true }

/-- The descriptor of source `i` in the Default Profile (R154). -/
def defaultDesc (i : SrcId) : Desc :=
  if i.val < 16 then defaultCritical
  else if i.val < 44 then defaultDisabled
  else if i.val = 50 then defaultJournalFull
  else defaultCritical

/-- Plans P0 to P6 of the Default Profile (R154). -/
def defaultPlan : Plan :=
  { ssoMask := 0xF, epFault := true, hrst := false, hrstDelay := 0, hrstPulse := 10, pwrCut := false, pwrDelay := 0,
    dwell := 10, ack := true, autoRelease := false }

/-- Plan P7 of the Default Profile: as P0, with a host-reset pulse (R154). -/
def defaultPlan7 : Plan := { defaultPlan with hrst := true, hrstDelay := 0, hrstPulse := 10 }

/-- Every fault line of the Default Profile (R154). -/
def defaultFl : FlCfg := { activeHigh := false, mode := .level, filt := 3, wake := false }

/-- Every heartbeat channel of the Default Profile (R154). -/
def defaultHb : HbCfg := { enable := false, edge := .rising, min := 100, max := 200 }

/-- The Default Profile (R154). -/
def defaultProfile : Profile :=
  { desc := Vector.ofFn defaultDesc
    plans := Vector.ofFn (fun i : Fin 8 => if i.val = 7 then defaultPlan7 else defaultPlan)
    fl := Vector.replicate 16 defaultFl
    hb := Vector.replicate 4 defaultHb
    link := { enable := false, wake := false, ownNode := 0, nodeMask := 0, beaconPeriod := 10, timeout := 50,
              errLimit := 8 }
    wd := { enable := false, closed := 20, opn := 20, initial := 10, limit := 3, mask := 0 }
    ep := { proto := .static, half := 10, min := 0 }
    sup := { ackLimit := 100, escCeiling := 2 }
    jrn := { policy := .keepNewest, attnLevel := 1 }
    osv := { mask := 0, filter := 3 }
    stAtInit := true
    profLock := false }

/-- Some heartbeat channel, enabled or not, has a MAX not greater than MIN: BAD_HB_WINDOW (R39, R158). -/
def badHbWindow (p : Profile) : Bool :=
  p.hb.toList.any (fun c => decide (c.max.toNat ≤ c.min.toNat))

/-- The descriptor is enabled and could dispatch an ALARM with ALARM_TIME 0: BAD_ALARM_TIME (R67, R158). -/
def descBadAlarm (d : Desc) : Bool :=
  d.enable && d.alarmTime == 0 && (d.cls == .alarm || (d.cls == .notice && d.promoteAt != 0))

/-- Some descriptor is refused with BAD_ALARM_TIME (R67, R158). -/
def badAlarmTime (p : Profile) : Bool := p.desc.toList.any descBadAlarm

/-- Every plan field is in its range; every descriptor field is so by its type (R67, R89; step ST2 of R169). -/
def planInRange (pl : Plan) : Bool := pl.hrstPulse != 0 && pl.dwell != 0

/-- Step ST2 of the self-test passes: every descriptor and plan in range, and both checks of R158 (R169). -/
def profileSound (p : Profile) : Bool :=
  p.plans.toList.all planInRange && !badHbWindow p && !badAlarmTime p

/-- A plan's effective ACK: ACK yes and PWR_CUT no (R89). -/
def effectiveAck (pl : Plan) : Bool := pl.ack && !pl.pwrCut

end Sys2Proof.Machine
end

