-- ==== Sys2Proof/Machine/Blocks.lean ====
section
/-!
DEFINITION. The state of each block of the device, as plain data, with the names of its chapter.
-/

namespace Sys2Proof.Machine

/-! ### Supervisor vocabulary -/

/-- The supervisor states (R79). -/
inductive SupState where
  | init
  | normal
  | alert
  | safe
  | lockdown
  | standby
  | waking
deriving DecidableEq, Repr

/-- The kinds of reset (R165). -/
inductive ResetKind where
  | por
  | pin
  | soft
deriving DecidableEq, Repr

/-! ### Clock, reset and power -/

/-- Whether the device is in reset, starting its main oscillator, running batches, or stopped (R165, R167, R171). -/
inductive ClkPhase where
  | inReset (kind : ResetKind)
  | starting
  | running
  | stopped
deriving DecidableEq, Repr

/-- The step of INIT in progress (R167): `first` until the first batch has begun the profile load, then the load, the
archive write, the self-test; `done` after the end of INIT. -/
inductive InitStep where
  | first
  | load
  | archive
  | selftest
  | done
deriving DecidableEq, Repr

/-- Reset, clock and power unit (chapter 11). `hiCapture`: the held capture of TICK_LO (R171). `winCount` and `monCond`: the
clock monitor's count and its condition with detail (R172). -/
structure Clock where
  phase : ClkPhase
  lastReset : ResetKind
  initStep : InitStep
  tick : Tick
  hiCapture : Option Word
  wakingDue : Option Tick
  wakeReq : Bool
  winCount : Nat
  monCond : Option Byte
deriving DecidableEq, Repr

/-- The content of the reset-cause latch (R166). -/
structure RcLatch where
  prior : SupState
  level : BitVec 2
  first : Option SrcId
  jseq : Word
deriving DecidableEq, Repr

/-- The retained domain (R166). -/
structure Retained where
  sticky : Bool
  resets : Word
  latch : Option RcLatch
deriving DecidableEq, Repr

/-! ### Host port -/

/-- The result codes (R13). -/
inductive Res where
  | ok
  | noPrior
  | rejCrc
  | rejLength
  | rejTag
  | rejFormat
  | rejCommand
  | rejState
  | rejAccess
  | rejArg
  | refused
  | badToken
  | empty
  | locked
deriving DecidableEq, Repr

/-- The reason codes of REFUSED (R13). -/
inductive Reason where
  | conditionPresent
  | disabled
  | nodeNotSilent
  | ackPending
  | dwellRunning
  | actionPending
  | epMinRunning
  | sourcesLatched
  | noAckPending
  | wdNotRunning
  | unlockSequence
  | badHbWindow
  | badAlarmTime
  | commitBusy
  | selftestBusy
  | sessionOpen
deriving DecidableEq, Repr

/-- The stored result of the last accepted frame (R9, R10). -/
structure Stored where
  tag : BitVec 3
  res : Res
  data : BitVec 24
deriving DecidableEq, Repr

/-- The response slot; its check code is computed from the rest (R12, R13). -/
structure Slot where
  status : Byte
  tag : BitVec 3
  res : Res
  data : BitVec 24
deriving DecidableEq, Repr

/-- The host port (chapter 1). `s45`, `s45Detail`: the condition of S45 as last evaluated (R18, R59). `sdo`: what SDO showed
during the last frame (R3, R7, R12; log 20). -/
structure HostPort where
  synced : Bool
  lastTag : BitVec 3
  stored : Option Stored
  consec : BitVec 4
  errcnt : Word
  lastRej : Option Res
  slot : Slot
  s45 : Bool
  s45Detail : Byte
  sdo : List Bool
deriving DecidableEq, Repr

/-! ### Fault lines and heartbeat channels -/

/-- The states of a fault line unit (section 2.2). -/
inductive FlState where
  | inactive
  | qualifying
  | asserted
  | releasing
  | spent
deriving DecidableEq, Repr

/-- The pulse hold of R28: `waiting` until a Stage B has evaluated sources, then `seen` until the next Stage A. -/
inductive Hold where
  | none
  | waiting
  | seen
deriving DecidableEq, Repr

/-- A fault line unit (section 2.2). -/
structure FlUnit where
  state : FlState
  count : Nat
  level : Bool
  hold : Hold
  detail : Byte
deriving DecidableEq, Repr

/-- The states of a heartbeat channel (section 2.3). -/
inductive HbState where
  | disarmed
  | arming
  | running
  | frozen
deriving DecidableEq, Repr

/-- The kind of the last violation of a channel (R38). -/
inductive HbViol where
  | none
  | early
  | late
deriving DecidableEq, Repr

/-- A heartbeat channel (section 2.3). -/
structure HbUnit where
  state : HbState
  counter : Word
  ref : Option Bool
  capt : Word
  viol : HbViol
  detail : Byte
deriving DecidableEq, Repr

/-! ### Peer link -/

/-- What the bytes ignored by a receiver that is not ready belong to (R41): nothing that is counted, a failed message, or
(after a complete message) an early run; `run` says that such a run has begun. -/
inductive RxWhy where
  | uncounted
  | afterFail
  | afterComplete (run : Bool)
deriving DecidableEq, Repr

/-- The receiver (R40, R41, R54, R57, R58). `ready`: no message has begun. `assembling`: a message has begun and is not complete; it
has received these bytes, and has taken these levels of the next one, its start bit first (none: it searches for a start bit). `off`
and `wakeWatch` receive nothing; `idle` says that LRX has been idle for 2 byte-times, for which the transmitter waits (R52, R57). -/
inductive RxState where
  | off (idle : Bool)
  | wakeWatch (idle : Bool)
  | notReady (why : RxWhy)
  | ready
  | assembling (bytes : List Byte) (bits : List Bool)
deriving DecidableEq, Repr

/-- KIND of an accepted message (R41). -/
inductive PemKind where
  | event
  | clear
  | beacon
deriving DecidableEq, Repr

/-- An entry of the Link Inbox (R42, R44). -/
structure LinkMsg where
  node : Fin 8
  kind : PemKind
  seq : BitVec 3
  code : Byte
  detail : Byte
deriving DecidableEq, Repr

/-- NSTATE (section 3.4). -/
inductive NState where
  | unknown
  | alive
  | silent
deriving DecidableEq, Repr

/-- An entry of the Node Table (section 3.4). -/
structure NodeEntry where
  lastSeq : Option (BitVec 3)
  nstate : NState
  silence : Nat
deriving DecidableEq, Repr

/-- A last-event record (section 3.5). -/
structure LastEvent where
  node : Fin 8
  detail : Byte
deriving DecidableEq, Repr

/-- A message in flight: its four bytes (R52). -/
structure Flight where
  b0 : Byte
  b1 : Byte
  b2 : Byte
  b3 : Byte
deriving DecidableEq, Repr

/-- The peer link (chapter 3). `suspended`: STANDBY has suspended the link and the first tick of WAKING resumes it (R57,
R58). -/
structure Link where
  rx : RxState
  inbox : List LinkMsg
  overrun : Bool
  leaky : BitVec 5
  nodes : Vector NodeEntry 8
  sets : Vector (BitVec 8) 16
  last : Vector (Option LastEvent) 16
  framing : BitVec 4
  truncation : BitVec 4
  crc : BitVec 4
  malformed : BitVec 4
  foreign : Word
  dup : Byte
  gap : Byte
  s44 : Bool
  s44Detail : Byte
  flight : Option Flight
  pendingTx : Option SupState
  txSeq : BitVec 3
  beacon : Nat
  announced : Option SupState
  suspended : Bool
deriving DecidableEq, Repr

/-! ### Source Table -/

/-- STATE of a source record (R60). -/
inductive SrcState where
  | quiet
  | active
  | residual
deriving DecidableEq, Repr

/-- A source record (R60), with the detail and NODE last copied beside COND (R59). -/
structure SrcRec where
  state : SrcState
  cond : Bool
  condDetail : Byte
  condNode : Option (Fin 8)
  inj : Bool
  count : Byte
  promoted : Bool
  eff : Option Cls
  detail : Byte
  node : Option (Fin 8)
deriving DecidableEq, Repr

/-- An occurrence: one raise, until the end of Stage C of its batch (R62). -/
structure Occ where
  src : SrcId
  cls : Cls
  plan : Fin 8
  priority : BitVec 4
  alarmTime : Byte
  detail : Byte
  node : Option (Fin 8)
  injected : Bool
  promoted : Bool
deriving DecidableEq, Repr

/-! ### Supervisor -/

/-- An entry of the Alarm List (R85). -/
structure Alarm where
  src : SrcId
  expiry : Tick
  plan : Fin 8
deriving DecidableEq, Repr

/-- The active plan (R91). `ack` is the merged effective ACK; bit n of `plans` is set when Pn has been applied. -/
structure ActivePlan where
  ssoMask : BitVec 4
  epFault : Bool
  pwrCut : Bool
  autoRelease : Bool
  ack : Bool
  plans : BitVec 8
deriving DecidableEq, Repr

/-- The host-reset action (R93): its start tick and the length of the pulse in ticks while DELAYING, its end while
PULSING. -/
inductive HostReset where
  | idle
  | delaying (start : Tick) (len : Nat)
  | pulsing (stop : Tick)
deriving DecidableEq, Repr

/-- The power-cut action (R94). -/
inductive PowerCut where
  | idle
  | delaying (due : Tick)
  | cut
deriving DecidableEq, Repr

/-- The Supervisor (chapter 5). -/
structure Supervisor where
  state : SupState
  episode : Word
  first : Option SrcId
  alarms : List Alarm
  fullCount : Byte
  active : ActivePlan
  dwell : Option Tick
  hostReset : HostReset
  powerCut : PowerCut
  cause : Option SrcId
deriving DecidableEq, Repr

/-- An ack request (R99): `deadline` is a due tick while RUNNING and none while WAITING; `bad` is the bad-token count. -/
structure AckReq where
  token : Byte
  created : Tick
  deadline : Option Tick
  bad : Bool
deriving DecidableEq, Repr

/-- The Acknowledge and Escalation unit (chapter 6). -/
structure AckUnit where
  req : Option AckReq
  level : BitVec 2
deriving DecidableEq, Repr

/-! ### Watchdog -/

/-- The phase of the Service Watchdog; the running phases carry their due tick (R115). -/
inductive WdPhase where
  | off
  | held
  | initial (due : Tick)
  | closed (due : Tick)
  | opn (due : Tick)
deriving DecidableEq, Repr

/-- The kind of the last violation (R115). -/
inductive WdViol where
  | none
  | early
  | wrong
  | late
deriving DecidableEq, Repr

/-- The Service Watchdog (chapter 7). -/
structure Watchdog where
  phase : WdPhase
  challenge : Byte
  viol : BitVec 3
  last : WdViol
deriving DecidableEq, Repr

/-! ### Journal and archive -/

/-- The codes of SESSION records (R126). -/
inductive SessCode where
  | opened
  | apply
  | discard
  | timeout
  | abort
  | commit
deriving DecidableEq, Repr

/-- What a journal record carries beside SEQ, TICK and EPISODE, by its KIND (R126). -/
inductive RecBody where
  | raise (src : SrcId) (cls : Cls) (injected promoted exhausted : Bool) (node : Option (Fin 8)) (detail : Byte)
  | clear (src : SrcId)
  | expiry (src : SrcId)
  | state (fromState toState : SupState)
  | escalate (level : BitVec 2)
  | ack
  | session (code : SessCode)
  | lost (n : Byte)
deriving DecidableEq, Repr

/-- A journal record (R126). -/
structure Rec where
  seq : Word
  tick : Tick
  episode : Word
  body : RecBody
deriving DecidableEq, Repr

/-- The Event Journal, oldest record first (R125); `buf` is the read buffer, none while blank (R133). -/
structure Journal where
  recs : List Rec
  seq : Word
  lost : Byte
  displaced : Byte
  buf : Option Rec
deriving DecidableEq, Repr

/-- CAUSE of an archive entry (R136). -/
inductive ArchCause where
  | por
  | pin
  | soft
  | lockdownEntry
deriving DecidableEq, Repr

/-- An archive entry (R136). -/
structure ArchEntry where
  cause : ArchCause
  prior : Option SupState
  level : BitVec 2
  first : Option SrcId
  jseq : Option Word
  resets : Word
deriving DecidableEq, Repr

/-- The claim of a slot: the ordinal with its own check (R135). DESIGN CHOICE: the check is taken as 8 bits wide (log 34). -/
structure Claim where
  ord : Byte
  check : Byte
deriving DecidableEq, Repr

/-- The body of a slot: the entry fields, and the 16-bit check code over them (R135). -/
structure Body where
  entry : ArchEntry
  code : Word
deriving DecidableEq, Repr

/-- A slot of the archive as nonvolatile memory holds it: its claim and its body, each none while erased or not written whole
(R135). -/
structure ArchSlot where
  claim : Option Claim
  body : Option Body
deriving DecidableEq, Repr

/-- The state in which a slot is read (R135): an INVALID slot has an ordinal when its claim passes. -/
inductive SlotState where
  | empty
  | invalid (ord : Option Byte)
  | valid (ord : Byte) (entry : ArchEntry)
deriving DecidableEq, Repr

/-- The Reset-Cause Archive, with the snapshot behind ARCH_VIEW0 to ARCH_VIEW2 (R138). -/
structure Archive where
  slots : Vector ArchSlot 4
  view : SlotState
deriving DecidableEq, Repr

/-! ### Outputs -/

/-- The error signal pair (R142). While HEALTHY in ANTIPHASE it holds its phase (`phaseA`), the due tick of the next
exchange, and whether a change to STATIC is pending. -/
inductive Pair where
  | reset
  | fault
  | static
  | antiphase (phaseA : Bool) (due : Tick) (pending : Bool)
deriving DecidableEq, Repr

/-- A read-back comparator (R147). -/
structure Comp where
  settle : BitVec 2
  qual : Bool
  count : BitVec 4
deriving DecidableEq, Repr

/-- The Output Stage: bit n of `level` is the commanded level of output n, 1 for high (R140). -/
structure Outputs where
  level : BitVec 8
  pair : Pair
  epMin : Option Tick
  comps : Vector Comp 8
deriving DecidableEq, Repr

/-- nATTN and the content of ATTN_SUM, recomputed together (R77). -/
structure Attn where
  asserted : Bool
  count : Nat
  lowest : Option SrcId
deriving DecidableEq, Repr

/-! ### Profile Store, sessions, NV Controller -/

/-- A nonvolatile bank: the header's validity marker, GENERATION and 16-bit check code, and the profile, none while erased or not
written whole (R152). -/
structure Bank where
  marker : Bool
  gen : Word
  code : Word
  content : Option Profile
deriving DecidableEq, Repr

/-- The state in which a bank is read (R152). -/
inductive BankState where
  | erased
  | damaged
  | valid (gen : Word) (profile : Profile)
deriving DecidableEq, Repr

/-- The configuration session; the staging copy exists only while it is OPEN (R151, R156, R157). -/
inductive Session where
  | closed
  | unlocking (due : Tick)
  | opn (due : Tick) (staging : Profile)
deriving DecidableEq, Repr

/-- The commit status (R160). -/
inductive CommitStatus where
  | none
  | busy
  | done
  | abandoned
deriving DecidableEq, Repr

/-- The Profile Store (chapter 10). `coded` is the configuration over which the check code of step ST1 was last computed
(R169; log 15). -/
structure ProfileStore where
  running : Profile
  coded : Profile
  session : Session
  curBank : Option BankId
  gen : Word
  dflt : Bool
  s49Detail : Byte
  commit : CommitStatus
  bankA : Bank
  bankB : Bank
deriving DecidableEq, Repr

/-- The operations of the NV Controller (R164). -/
inductive NvOp where
  | load
  | archWrite (entry : ArchEntry)
  | erase
  | commit (bank : BankId) (gen : Word) (snap : Profile)
deriving DecidableEq, Repr

/-- The NV Controller: the operation in progress with the tick it began, and the requests behind it (R164). -/
structure NvCtrl where
  cur : Option (NvOp × Tick)
  queue : List NvOp
deriving DecidableEq, Repr

/-! ### Self-test and selectors -/

/-- ST_RESULT; a run in progress holds its step, 1 to 5, and the tick the step is due (R169). -/
inductive StResult where
  | none
  | running (step : Nat) (due : Tick)
  | pass
  | fail (step : Nat)
  | aborted
deriving DecidableEq, Repr

/-- The self-test; `lastFail` is the failing step of the last completed run, the condition of S48 (R169). -/
structure SelfTest where
  result : StResult
  lastFail : Option Nat
deriving DecidableEq, Repr

/-- The selector registers and PAGE_SEL (R178, R179). -/
structure Selectors where
  srcIndex : Fin 56
  nodeSel : Fin 8
  lcSel : Fin 16
  archSel : Fin 4
  edtIndex : Fin 56
  planIndex : Fin 8
  flSel : Fin 16
  hbSel : Fin 4
  page : Bool
deriving DecidableEq, Repr

end Sys2Proof.Machine
end

