-- ==== Sys2Proof/Config.lean ====
section
/-!
DEFINITION. The free values of the model: what the spec leaves open and the machine nevertheless produces. None of them has
a body, so no proof can use a value of one. Each is applied to the counter `State.free`, which the model advances whenever it
draws a value (log 23), or to the data it depends on.
-/

namespace Sys2Proof.Config

/-- Free bits: whether a low level on nRST of 2 to 10 µs resets the device (R165; log 8), whether an interrupted commit
leaves the bank DAMAGED rather than ERASED (R161; log 7). -/
opaque freeBit : Nat → Bool

/-- Free numbers: how far an interrupted erasure of the archive had gone in each slot (R139; log 7), and how far an interrupted
archive write had gone in its slot (R137; log 7). -/
opaque freeNat : Nat → Nat

/-- The slot taken as the newest when the claimed ordinals of the archive single out none, or more than one (R137 defines
the newest only where it is one; log 9). -/
opaque ambiguousNewest : List (Option Byte) → Fin 4

/-- The check of a claim over its ordinal, whose algorithm the spec does not give (R135; log 34). -/
opaque claimCheck : Byte → Byte

/-- The 16-bit check code of a body over the entry fields, whose algorithm the spec does not give (R135; log 34). -/
opaque bodyCode : Machine.ArchEntry → Word

/-- The 16-bit check code of a bank over the profile content, whose algorithm the spec does not give (R152; log 35). -/
opaque profileCode : Machine.Profile → Word

end Sys2Proof.Config
end

