-- ==== Sys2Proof/Machine/Codec.lean ====
section
/-!
DEFINITION. The formats that cross the device boundary: the check code (R5), the request frame (R3, R4) and the Peer Event
Message with its line format (R40, R41).
-/

namespace Sys2Proof.Machine

/-- One shift of the check register: left by one place, combined with 0x2F if the bit shifted out was 1 (R5). -/
def crcShift (r : Byte) : Byte :=
  if r.msb then (r <<< 1) ^^^ 0x2F else r <<< 1

/-- One byte enters the check register: exclusive-or, then eight shifts (R5). -/
def crcByte (r b : Byte) : Byte :=
  crcShift (crcShift (crcShift (crcShift (crcShift (crcShift (crcShift (crcShift (r ^^^ b))))))))

/-- The check code over bytes in order, starting from 0xA5, with no final exclusive-or (R5). -/
def crc8 (bytes : List Byte) : Byte := bytes.foldl crcByte 0xA5

/-- The check code that byte 5 of a frame must carry (R4, R5). -/
def frameCrc (f : RawFrame) : Byte := crc8 [f.b0, f.b1, f.b2, f.b3, f.b4]

/-- The check of step 2 of R6. -/
def frameCrcOk (f : RawFrame) : Bool := f.b5 == frameCrc f

/-- TAG: bits 7..5 of byte 1 (R4). -/
def frameTag (f : RawFrame) : BitVec 3 := f.b1.extractLsb' 5 3

/-- Bits 4..0 of byte 1, which must be 0 (R4, step 3 of R6). -/
def frameLow5 (f : RawFrame) : BitVec 5 := f.b1.extractLsb' 0 5

/-- The 24-bit argument, byte 2 most significant (R4). -/
def frameArg (f : RawFrame) : BitVec 24 := f.b2 ++ f.b3 ++ f.b4

/-- The frame that carries a command code, a tag and an argument, with its check code (R4, R5). -/
def requestFrame (code : Byte) (tag : BitVec 3) (arg : BitVec 24) : RawFrame :=
  let b1 : Byte := tag ++ (0 : BitVec 5)
  let b2 : Byte := arg.extractLsb' 16 8
  let b3 : Byte := arg.extractLsb' 8 8
  let b4 : Byte := arg.extractLsb' 0 8
  { b0 := code, b1 := b1, b2 := b2, b3 := b3, b4 := b4, b5 := crc8 [code, b1, b2, b3, b4] }

/-- An argument from its three bytes, byte 2 first (R4). -/
def argOf (b2 b3 b4 : Byte) : BitVec 24 := b2 ++ b3 ++ b4

/-- A byte from its first eight bits, the first one most significant (R3). -/
def byteOfBits (bits : List Bool) : Byte :=
  (bits.take 8).foldl (fun acc b => (acc <<< 1) ||| bit b) 0

/-- The bits of a byte, most significant first (R3). -/
def bitsOfByte (b : Byte) : List Bool :=
  [b.getLsbD 7, b.getLsbD 6, b.getLsbD 5, b.getLsbD 4, b.getLsbD 3, b.getLsbD 2, b.getLsbD 1, b.getLsbD 0]

/-- The six bytes of 48 bits, numbered in the order received (R3). -/
def frameOfBits (bits : List Bool) : RawFrame :=
  { b0 := byteOfBits bits, b1 := byteOfBits (bits.drop 8), b2 := byteOfBits (bits.drop 16),
    b3 := byteOfBits (bits.drop 24), b4 := byteOfBits (bits.drop 32), b5 := byteOfBits (bits.drop 40) }

/-- The check code of a Peer Event Message: over bytes 0 to 2 (R41). -/
def pemCrc (b0 b1 b2 : Byte) : Byte := crc8 [b0, b1, b2]

/-- NODE: bits 7..5 of byte 0 (R41). -/
def pemNode (b0 : Byte) : BitVec 3 := b0.extractLsb' 5 3

/-- KIND: bits 4..3 of byte 0 (R41). -/
def pemKind (b0 : Byte) : BitVec 2 := b0.extractLsb' 3 2

/-- SEQ: bits 2..0 of byte 0 (R41). -/
def pemSeq (b0 : Byte) : BitVec 3 := b0.extractLsb' 0 3

/-- Byte 0 of a message (R41). -/
def pemByte0 (node : BitVec 3) (kind : BitVec 2) (seq : BitVec 3) : Byte := node ++ kind ++ seq

/-- The ten bits of a byte on the link: a low start bit, the data least significant bit first, a high stop bit (R40). -/
def linkBits (b : Byte) : List Bool := false :: ((bitsOfByte b).reverse ++ [true])

/-- The levels of a byte frame: ten bit times, of which the first is a low start bit (R40). -/
def isByteFrame (bits : List Bool) : Bool := bits.length == 10 && bits.head? == some false

/-- The byte that the ten levels of a byte frame carry, none where the stop bit is low, which is a framing error (R40). -/
def linkByte (bits : List Bool) : Option Byte :=
  if bits.getD 9 false then some (byteOfBits ((bits.drop 1).take 8).reverse) else none

/-- A 3-bit number as a node number. -/
def nodeOf (b : BitVec 3) : Fin 8 := ⟨b.toNat, b.isLt⟩

end Sys2Proof.Machine
end

