-- ==== Sys2Proof/Machine/ResetValues.lean ====
section
/-!
DEFINITION. The value that every reset gives each block (R165 and the rules it names).
-/

namespace Sys2Proof.Machine

/-- NO_PRIOR with tag field 0, result data 0 and a status byte that reports state code 0 (R12, R14, R20). -/
def noPriorSlot : Slot := { status := 0, tag := 0, res := .noPrior, data := 0 }

/-- The host port after every reset (R20). `lastTag` has no meaning until the port is SYNCHRONISED (R9; log 24). -/
def resetPort : HostPort :=
  { synced := false, lastTag := 0, stored := none, consec := 0, errcnt := 0, lastRej := none, slot := noPriorSlot,
    s45 := false, s45Detail := 0, sdo := [] }

/-- A fault line unit after every reset (R23). -/
def resetFl : FlUnit := { state := .inactive, count := 0, level := false, hold := .none, detail := 0 }

/-- A heartbeat channel after every reset (R23). -/
def resetHb : HbUnit := { state := .disarmed, counter := 0, ref := none, capt := 0, viol := .none, detail := 0 }

/-- A Node Table entry after every reset, and of a node that is not watched (section 3.4). -/
def resetNode : NodeEntry := { lastSeq := none, nstate := .unknown, silence := 0 }

/-- The peer link after every reset (R56). -/
def resetLink : Link :=
  { rx := .off false, inbox := [], overrun := false, leaky := 0, nodes := Vector.replicate 8 resetNode,
    sets := Vector.replicate 16 0, last := Vector.replicate 16 none, framing := 0, truncation := 0, crc := 0,
    malformed := 0, foreign := 0, dup := 0, gap := 0, s44 := false, s44Detail := 0, flight := none, pendingTx := none,
    txSeq := 0, beacon := 0, announced := none, suspended := false }

/-- A source record after every reset (R60). -/
def resetSrc : SrcRec :=
  { state := .quiet, cond := false, condDetail := 0, condNode := none, inj := false, count := 0, promoted := false,
    eff := none, detail := 0, node := none }

/-- The empty active plan (R91). -/
def emptyPlan : ActivePlan :=
  { ssoMask := 0, epFault := false, pwrCut := false, autoRelease := false, ack := false, plans := 0 }

/-- The Supervisor after every reset (R79, R80, R85, R87, R91, R93, R94, R95). -/
def resetSup : Supervisor :=
  { state := .init, episode := 0, first := none, alarms := [], fullCount := 0, active := emptyPlan, dwell := none,
    hostReset := .idle, powerCut := .idle, cause := none }

/-- The Acknowledge and Escalation unit after every reset (R99). -/
def resetAck : AckUnit := { req := none, level := 0 }

/-- The Service Watchdog after every reset (R115). -/
def resetWd : Watchdog := { phase := .off, challenge := 0x01, viol := 0, last := .none }

/-- The journal after every reset (R125). -/
def resetJrn : Journal := { recs := [], seq := 0, lost := 0, displaced := 0, buf := none }

/-- A comparator after every reset (R147). -/
def resetComp : Comp := { settle := 2, qual := false, count := 0 }

/-- The outputs while a reset lasts and throughout INIT: SSO low, both EP pins low, nHRST asserted (low), PWREN deasserted
(low) (R141). -/
def resetLevels : BitVec 8 := 0x00

/-- The Output Stage after every reset (R141, R142, R146, R147). -/
def resetOut : Outputs :=
  { level := resetLevels, pair := .reset, epMin := none, comps := Vector.replicate 8 resetComp }

/-- nATTN is released throughout reset (R77). -/
def resetAttn : Attn := { asserted := false, count := 0, lowest := none }

/-- The Profile Store from every reset until the load of INIT, with the two banks kept (R153, R157, R161). -/
def resetProf (a b : Bank) : ProfileStore :=
  { running := defaultProfile, coded := defaultProfile, session := .closed, curBank := none, gen := 0, dflt := true,
    s49Detail := 0, commit := .none, bankA := a, bankB := b }

/-- The NV Controller after every reset: its queue is emptied (R164). -/
def resetNv : NvCtrl := { cur := none, queue := [] }

/-- The self-test after every reset (R169). -/
def resetSt : SelfTest := { result := .none, lastFail := none }

/-- The selectors after every reset (R138, R178). -/
def resetSel : Selectors :=
  { srcIndex := 0, nodeSel := 0, lcSel := 0, archSel := 0, edtIndex := 0, planIndex := 0, flSel := 0, hbSel := 0,
    page := false }

/-- The clock unit as a reset leaves it (R165, R171, R172, R174). -/
def resetClk (phase : ClkPhase) (kind : ResetKind) : Clock :=
  { phase := phase, lastReset := kind, initStep := .first, tick := 0, hiCapture := none, wakingDue := none,
    wakeReq := false, winCount := 0, monCond := none }

/-- The retained domain after a power-on reset (R166). -/
def porRetained : Retained := { sticky := false, resets := 0, latch := none }

/-- A slot that is erased (R135). -/
def erasedSlot : ArchSlot := { claim := none, body := none }

/-- A bank that is erased: the marker absent (R152; what else an erased header reads as, log 35). -/
def erasedBank : Bank := { marker := false, gen := 0, code := 0, content := none }

/-- The archive after a reset: the slots are kept and the views show an EMPTY slot (R138). -/
def resetArch (slots : Vector ArchSlot 4) : Archive := { slots := slots, view := .empty }

end Sys2Proof.Machine
end

