-- ==== Sys2Proof/Machine/State.lean ====
section
/-!
DEFINITION. The state of the E428 as plain data, its faults and refusals, and the state right after reset.
-/

namespace Sys2Proof.Machine

/-- All the state of the device: one field per block, and the queue of the commands that wait (log 2). `crit` is nCRIT
asserted (R114). `sw` holds the conditions of SW0 to SW3 (R76). `free` numbers the free values drawn (log 23). -/
structure State where
  clk : Clock
  ret : Retained
  port : HostPort
  fl : Vector FlUnit 16
  hb : Vector HbUnit 4
  link : Link
  src : Vector SrcRec 56
  sw : BitVec 4
  sup : Supervisor
  ack : AckUnit
  wd : Watchdog
  jrn : Journal
  arch : Archive
  out : Outputs
  prof : ProfileStore
  nv : NvCtrl
  st : SelfTest
  sel : Selectors
  attn : Attn
  crit : Bool
  free : Nat
  pending : List Instr
deriving DecidableEq, Repr

/-- The reasons a step could stop with a fault. No rule of the spec stops the device, so no meaning raises one: this closed
type has no constructor. -/
inductive Fault where
deriving DecidableEq, Repr

/-- The reasons a step could be refused. -/
inductive Refusal where
  /-- Raised by an arm of `exec` for a command that has no meaning yet (safe: nothing can be proved of its effect). -/
  | notModelled (mnemonic : String)
deriving DecidableEq, Repr

/-- The machine right after a power-on reset has ended: INIT has begun and the main oscillator starts (R165, R167). The
nonvolatile banks and archive slots of a device that was never written are erased (log 1). -/
def State.reset : State :=
  { clk := resetClk .starting .por
    ret := porRetained
    port := resetPort
    fl := Vector.replicate 16 resetFl
    hb := Vector.replicate 4 resetHb
    link := resetLink
    src := Vector.replicate 56 resetSrc
    sw := 0
    sup := resetSup
    ack := resetAck
    wd := resetWd
    jrn := resetJrn
    arch := resetArch (Vector.replicate 4 erasedSlot)
    out := resetOut
    prof := resetProf erasedBank erasedBank
    nv := resetNv
    st := resetSt
    sel := resetSel
    attn := resetAttn
    crit := false
    free := 0
    pending := [] }

end Sys2Proof.Machine
end

