-- ==== Sys2Proof/Machine/Ops.lean ====
section
/-!
DEFINITION. The named operations the meanings are built from: replacing a field, entries of a table, due ticks (R78), the
journal's one way of writing a record (R127 to R131), drawing a free value, and the supervisor state change (R79, R81).
-/

namespace Sys2Proof.Machine

/-! ### Replacing a field of State -/

/-- The state with `clk` replaced. -/
def State.setClk (s : State) (x : Clock) : State := { s with clk := x }

/-- The state with `ret` replaced. -/
def State.setRet (s : State) (x : Retained) : State := { s with ret := x }

/-- The state with `port` replaced. -/
def State.setPort (s : State) (x : HostPort) : State := { s with port := x }

/-- The state with `fl` replaced. -/
def State.setFl (s : State) (x : Vector FlUnit 16) : State := { s with fl := x }

/-- The state with `hb` replaced. -/
def State.setHb (s : State) (x : Vector HbUnit 4) : State := { s with hb := x }

/-- The state with `link` replaced. -/
def State.setLink (s : State) (x : Link) : State := { s with link := x }

/-- The state with `src` replaced. -/
def State.setSrc (s : State) (x : Vector SrcRec 56) : State := { s with src := x }

/-- The state with `sw` replaced. -/
def State.setSw (s : State) (x : BitVec 4) : State := { s with sw := x }

/-- The state with `sup` replaced. -/
def State.setSup (s : State) (x : Supervisor) : State := { s with sup := x }

/-- The state with `ack` replaced. -/
def State.setAck (s : State) (x : AckUnit) : State := { s with ack := x }

/-- The state with `wd` replaced. -/
def State.setWd (s : State) (x : Watchdog) : State := { s with wd := x }

/-- The state with `jrn` replaced. -/
def State.setJrn (s : State) (x : Journal) : State := { s with jrn := x }

/-- The state with `arch` replaced. -/
def State.setArch (s : State) (x : Archive) : State := { s with arch := x }

/-- The state with `out` replaced. -/
def State.setOut (s : State) (x : Outputs) : State := { s with out := x }

/-- The state with `prof` replaced. -/
def State.setProf (s : State) (x : ProfileStore) : State := { s with prof := x }

/-- The state with `nv` replaced. -/
def State.setNv (s : State) (x : NvCtrl) : State := { s with nv := x }

/-- The state with `st` replaced. -/
def State.setSt (s : State) (x : SelfTest) : State := { s with st := x }

/-- The state with `sel` replaced. -/
def State.setSel (s : State) (x : Selectors) : State := { s with sel := x }

/-- The state with `attn` replaced. -/
def State.setAttn (s : State) (x : Attn) : State := { s with attn := x }

/-- The state with `crit` replaced. -/
def State.setCrit (s : State) (x : Bool) : State := { s with crit := x }

/-- The state with `free` replaced. -/
def State.setFree (s : State) (x : Nat) : State := { s with free := x }

/-- The state with `pending` replaced. -/
def State.setPending (s : State) (x : List Instr) : State := { s with pending := x }

/-! ### Tables -/

/-- Entry `i` of a table. -/
def vget {α : Type} {n : Nat} (v : Vector α n) (i : Fin n) : α := v.get i

/-- The table with entry `i` replaced. -/
def vset {α : Type} {n : Nat} (v : Vector α n) (i : Fin n) (x : α) : Vector α n := v.set i.val x i.isLt

/-- The table with every entry recomputed from its number and itself. -/
def vmap {α β : Type} {n : Nat} (f : Fin n → α → β) (v : Vector α n) : Vector β n :=
  Vector.ofFn (fun i => f i (vget v i))

/-- A word whose bit n is `f n`. -/
def bitsOf {n : Nat} (f : Fin n → Bool) : BitVec n :=
  (List.finRange n).foldl (fun acc i => if f i then acc ||| BitVec.twoPow n i.val else acc) 0

/-! ### Ticks and durations -/

/-- The present tick (R78). -/
def State.now (s : State) : Tick := s.clk.tick

/-- The tick `n` ticks after `t`, modulo 2^32. -/
def addTicks (t : Tick) (n : Nat) : Tick := t + BitVec.ofNat 32 n

/-- A duration is handled in the first batch whose tick is at or after its due tick, compared modulo 2^32 (R78). -/
def isDue (now due : Tick) : Bool := decide ((now - due).toNat < 2147483648)

/-- A value in milliseconds, in ticks (R1). -/
def msTicks (n : Byte) : Nat := n.toNat * 10

/-- A value in units of 10 ms, in ticks (R1). -/
def tenMsTicks (n : Byte) : Nat := n.toNat * 100

/-- A number of ticks in milliseconds, rounded up (R1, R78). -/
def ticksToMs (n : Nat) : Nat := (n + 9) / 10

/-- The remaining time of a due tick in milliseconds, rounded up; 0 once due (R78). -/
def msLeft (now due : Tick) : Nat := if isDue now due then 0 else ticksToMs (due - now).toNat

/-! ### Codes -/

/-- The supervisor state codes (R14). -/
def stateCode (x : SupState) : BitVec 3 :=
  match x with
  | .init => 0
  | .normal => 1
  | .alert => 2
  | .safe => 3
  | .lockdown => 4
  | .standby => 5
  | .waking => 6

/-- NORMAL, ALERT, SAFE and LOCKDOWN: the states in which every unit operates and Stages B and C run (R69). -/
def awake (x : SupState) : Bool :=
  match x with
  | .normal => true
  | .alert => true
  | .safe => true
  | .lockdown => true
  | .init => false
  | .standby => false
  | .waking => false

/-! ### Free values -/

/-- A free bit, and the state in which it has been drawn (log 23). -/
def drawBit (s : State) : Bool × State := (Config.freeBit s.free, s.setFree (s.free + 1))

/-- A free number, and the state in which it has been drawn (log 23). -/
def drawNat (s : State) : Nat × State := (Config.freeNat s.free, s.setFree (s.free + 1))

/-! ### The journal -/

/-- A record is pinned when it is a STATE record to SAFE or LOCKDOWN, or an ESCALATE record (R129). -/
def isPinned (b : RecBody) : Bool :=
  match b with
  | .state _ .safe => true
  | .state _ .lockdown => true
  | .escalate _ => true
  | _ => false

/-- The number of pinned records held (R129). -/
def pinnedCount (recs : List Rec) : Nat := recs.countP (fun r => isPinned r.body)

/-- The records without the oldest unpinned one (R130). -/
def dropUnpinned : List Rec → List Rec
  | [] => []
  | r :: rs => if isPinned r.body then r :: dropUnpinned rs else rs

/-- The number of records the journal can hold (R125). -/
def journalCap : Nat := 32

/-- A created record joins the journal, displaces the oldest unpinned record, or is lost (R130). -/
def appendRec (policy : JrnPolicy) (r : Rec) (j : Journal) : Journal :=
  if j.recs.length < journalCap then { j with recs := j.recs ++ [r] }
  else
    match policy with
    | .keepOldest => { j with lost := satInc j.lost }
    | .keepNewest =>
      if j.recs.any (fun x => !isPinned x.body) then
        { j with recs := dropUnpinned j.recs ++ [r], displaced := satInc j.displaced }
      else { j with lost := satInc j.lost }

/-- The record of the present tick and episode with the next SEQ (R127). -/
def newRec (s : State) (b : RecBody) : Rec :=
  { seq := s.jrn.seq, tick := s.now, episode := s.sup.episode, body := b }

/-- A record is created: it takes the SEQ counter's value, the counter advances whatever becomes of the record, and the
running policy decides what becomes of it (R127, R130). DEDUCED: the counter wraps even where a record 65536 older is still held,
which R125 says never happens (log 36). -/
def writeRec (b : RecBody) (s : State) : State :=
  s.setJrn { appendRec s.prof.running.jrn.policy (newRec s b) s.jrn with seq := s.jrn.seq + 1 }

/-! ### Session and supervisor state changes -/

/-- UNLOCKING returns to CLOSED without a result (R156). -/
def cancelUnlock (s : State) : State :=
  match s.prof.session with
  | .unlocking _ => s.setProf { s.prof with session := .closed }
  | _ => s

/-- The supervisor changes state: the new state, then its STATE record (R79, R81); a pending unlock step is cancelled
(R156). -/
def changeState (dst : SupState) (s : State) : State :=
  cancelUnlock (writeRec (.state s.sup.state dst) (s.setSup { s.sup with state := dst }))

/-- A session is open (R157). -/
def sessionOpen (s : State) : Bool :=
  match s.prof.session with
  | .opn _ _ => true
  | _ => false

/-- A self-test run is in progress (R169). -/
def selftestRunning (s : State) : Bool :=
  match s.st.result with
  | .running _ _ => true
  | _ => false

/-- The host-reset action is IDLE (R93). -/
def hostResetIdle (s : State) : Bool :=
  match s.sup.hostReset with
  | .idle => true
  | _ => false

/-- A source record is latched: ACTIVE or RESIDUAL (R60). -/
def isLatched (r : SrcRec) : Bool :=
  match r.state with
  | .quiet => false
  | .active => true
  | .residual => true

/-- The effective condition of a source record (R60). -/
def effCond (r : SrcRec) : Bool := r.cond || r.inj

/-- The stored effective class is ALARM or CRITICAL (R66). -/
def effSevere (r : SrcRec) : Bool := r.eff == some .alarm || r.eff == some .critical

/-- Some source is latched whose stored effective class is ALARM or CRITICAL: SOURCES_LATCHED (R66, R96, R173). -/
def severeLatched (s : State) : Bool := s.src.toList.any (fun r => isLatched r && effSevere r)

end Sys2Proof.Machine
end

