-- ==== Sys2Proof/Machine/Lines.lean ====
section
/-!
DEFINITION. Fault line units (R23 to R31), heartbeat channels (R32 to R39), read-back comparators (R147 to R150) and the clock
monitor (R172): the units of Stage A that judge a pin or a clock.
-/

namespace Sys2Proof.Machine

/-! ### Fault lines -/

/-- FL_QUAL: the unit is ASSERTED, RELEASING or SPENT (R29). -/
def flQual (u : FlUnit) : Bool :=
  match u.state with
  | .inactive => false
  | .qualifying => false
  | .asserted => true
  | .releasing => true
  | .spent => true

/-- The condition of a fault line: ASSERTED or RELEASING (R25, R26), or a pulse hold (R28). -/
def flCond (u : FlUnit) : Bool := u.state == .asserted || u.state == .releasing || u.hold != .none

/-- The detail fixed at qualification: bit 7 PULSE, bit 6 ACTIVE_HIGH, bits 3..0 FILT (R29). -/
def flDetail (c : FlCfg) : Byte :=
  (bit (c.mode == .pulse) : BitVec 1) ++ (bit c.activeHigh : BitVec 1) ++ (0 : BitVec 2) ++ c.filt

/-- Qualification completes: ASSERTED in LEVEL mode; SPENT in PULSE mode, with a pulse hold unless one is still set (R25, R27,
R28, R29). -/
def flQualify (c : FlCfg) (u : FlUnit) : FlUnit :=
  match c.mode with
  | .level => { u with state := .asserted, count := 0, detail := flDetail c }
  | .pulse =>
    match u.hold with
    | .none => { u with state := .spent, count := 0, hold := .waiting, detail := flDetail c }
    | .waiting => { u with state := .spent, count := 0 }
    | .seen => { u with state := .spent, count := 0 }

/-- One more active sample while qualifying: it completes at FILT+1 samples (R25, R31). -/
def flCountUp (c : FlCfg) (u : FlUnit) : FlUnit :=
  if c.filt.toNat + 1 ≤ u.count + 1 then flQualify c u else { u with state := .qualifying, count := u.count + 1 }

/-- One more inactive sample while releasing: it completes at FILT+1 samples (R26, R31). -/
def flCountDown (c : FlCfg) (u : FlUnit) : FlUnit :=
  if c.filt.toNat + 1 ≤ u.count + 1 then { u with state := .inactive, count := 0 }
  else { u with state := .releasing, count := u.count + 1 }

/-- The transition of an active sample (table of section 2.2). -/
def flActive (c : FlCfg) (u : FlUnit) : FlUnit :=
  match u.state with
  | .inactive => flCountUp c { u with count := 0 }
  | .qualifying => flCountUp c u
  | .asserted => u
  | .releasing => { u with state := .asserted, count := 0 }
  | .spent => u

/-- The transition of an inactive sample (table of section 2.2). -/
def flInactive (c : FlCfg) (u : FlUnit) : FlUnit :=
  match u.state with
  | .inactive => u
  | .qualifying => { u with state := .inactive, count := 0 }
  | .asserted => flCountDown c { u with count := 0 }
  | .releasing => flCountDown c u
  | .spent => { u with state := .inactive, count := 0 }

/-- A hold that a Stage B has seen is cleared in the next Stage A, whatever the state of the unit (R28). DEDUCED: it is cleared
before that Stage A's sample is taken, so that a qualification which this very sample completes sets a hold of its own and the
condition stays present with a new detail (log 32). -/
def flClearSeen (u : FlUnit) : FlUnit :=
  match u.hold with
  | .seen => { u with hold := .none }
  | .none => u
  | .waiting => u

/-- A Stage B has evaluated sources: a waiting hold has been seen (R28). -/
def flMarkSeen (u : FlUnit) : FlUnit :=
  match u.hold with
  | .waiting => { u with hold := .seen }
  | .none => u
  | .seen => u

/-- The step of a sampled unit in Stage A: a seen hold is cleared (R28; log 32), then one sample and one transition (R24). -/
def flStep (c : FlCfg) (level : Bool) (u : FlUnit) : FlUnit :=
  let v := { flClearSeen u with level := level }
  if level = c.activeHigh then flActive c v else flInactive c v

/-- The unit completes a qualification between `u` and `v`: it signals a wake request in STANDBY (R30). -/
def flQualifies (u v : FlUnit) : Bool := !flQual u && flQual v

/-- Entry into STANDBY: a unit whose WAKE is clear is set to INACTIVE (R30). -/
def flStandby (c : FlCfg) (u : FlUnit) : FlUnit := if c.wake then u else resetFl

/-- An APPLY resets a unit whose POLARITY or MODE has changed and leaves every other one (R31). -/
def flApply (old new : FlCfg) (u : FlUnit) : FlUnit :=
  if old.activeHigh = new.activeHigh ∧ old.mode = new.mode then u
  else { u with state := .inactive, count := 0, hold := .none }

/-- A unit is sampled in this supervisor state (table of R23). -/
def flSampled (x : SupState) (c : FlCfg) : Bool :=
  match x with
  | .init => false
  | .standby => c.wake
  | .waking => true
  | .normal => true
  | .alert => true
  | .safe => true
  | .lockdown => true

/-! ### Heartbeat channels -/

/-- The sample makes a counted edge against the reference (R32). -/
def hbEdgeSeen (e : HbEdge) (ref : Option Bool) (sample : Bool) : Bool :=
  match ref with
  | none => false
  | some r =>
    r != sample && match e with
      | .rising => sample
      | .falling => !sample
      | .both => true

/-- The detail of a violation: bit 7 LATE, bits 6..0 the interval or 127 (R38). -/
def hbDetail (late : Bool) (interval : Word) : Byte :=
  (bit late : BitVec 1) ++ BitVec.ofNat 7 (min interval.toNat 127)

/-- A violation freezes the channel (R35, R36). -/
def hbFreeze (k : HbViol) (interval : Word) (u : HbUnit) : HbUnit :=
  { u with state := .frozen, counter := 0, capt := interval, viol := k, detail := hbDetail (k == .late) interval }

/-- A RUNNING channel measures: the counter first, then the sample (R34, R35, R36). -/
def hbMeasure (c : HbCfg) (edge : Bool) (u : HbUnit) : HbUnit :=
  let n := u.counter + 1
  if edge then
    if c.min.toNat ≤ n.toNat then { u with counter := 0, capt := n } else hbFreeze .early n u
  else if c.max.toNat ≤ n.toNat then hbFreeze .late c.max u
  else { u with counter := n }

/-- The step of a channel in Stage A (R32, R33, R34, R37). -/
def hbStep (c : HbCfg) (sample : Bool) (u : HbUnit) : HbUnit :=
  let edge := hbEdgeSeen c.edge u.ref sample
  match u.state with
  | .disarmed => u
  | .arming =>
    if edge then { u with ref := some sample, state := .running, counter := 0 } else { u with ref := some sample }
  | .running => hbMeasure c edge { u with ref := some sample }
  | .frozen => { u with ref := some sample }

/-- The condition of a heartbeat channel: FROZEN (R37). -/
def hbCond (u : HbUnit) : Bool := u.state == .frozen

/-- A channel enters DISARMED; HBn_CAPT and the last violation kind stay (R33, R39). -/
def hbDisarm (u : HbUnit) : HbUnit := { u with state := .disarmed, counter := 0, ref := none }

/-- A channel leaves DISARMED for ARMING without a reference (R32, R39). -/
def hbArm (u : HbUnit) : HbUnit := { u with state := .arming, counter := 0, ref := none }

/-- An enabled channel enters ARMING at the end of INIT and of WAKING (R23, R39). -/
def hbArmIfEnabled (c : HbCfg) (u : HbUnit) : HbUnit := if c.enable then hbArm u else u

/-- The read of HBn_CAPT releases a FROZEN channel (R37). -/
def hbRelease (u : HbUnit) : HbUnit :=
  match u.state with
  | .frozen => { u with state := .arming, counter := 0 }
  | .disarmed => u
  | .arming => u
  | .running => u

/-- A channel that stays enabled under a changed window restarts from ARMING, but not from FROZEN (R39). -/
def hbRewindow (u : HbUnit) : HbUnit :=
  match u.state with
  | .arming => { u with state := .arming, counter := 0 }
  | .running => { u with state := .arming, counter := 0 }
  | .frozen => u
  | .disarmed => u

/-- What an APPLY does to a channel (R39). -/
def hbApply (old new : HbCfg) (u : HbUnit) : HbUnit :=
  match old.enable, new.enable with
  | true, false => hbDisarm u
  | false, true => hbArm u
  | true, true => if old.edge = new.edge ∧ old.min = new.min ∧ old.max = new.max then u else hbRewindow u
  | false, false => u

/-! ### Read-back comparators -/

/-- One more sample that agrees with the transition in progress; at OSV_FILTER the mismatch is qualified or withdrawn
(R148, R150). -/
def compCount (filter : BitVec 4) (c : Comp) : Comp :=
  if filter.toNat ≤ c.count.toNat + 1 then { c with qual := !c.qual, count := 0 } else { c with count := c.count + 1 }

/-- A comparator samples (table of R148). -/
def compSample (filter : BitVec 4) (mismatch : Bool) (c : Comp) : Comp :=
  if mismatch = c.qual then { c with count := 0 } else compCount filter c

/-- The step of a comparator in Stage A: the settle allowance, else a sample (R147). -/
def compStep (filter : BitVec 4) (mismatch : Bool) (c : Comp) : Comp :=
  if c.settle = 0 then compSample filter mismatch c else { c with settle := c.settle - 1 }

/-- A change of commanded level starts the settle allowance and restarts the run (R147). -/
def compSettle (c : Comp) : Comp := { c with settle := 2, count := 0 }

/-- Output `i` is unmasked and has QUAL yes (R149). -/
def compCounts (cfg : OsvCfg) (comps : Vector Comp 8) (i : Fin 8) : Bool :=
  (vget comps i).qual && !cfg.mask.getLsbD i.val

/-- The condition of S47 (R149). -/
def osvCond (cfg : OsvCfg) (comps : Vector Comp 8) : Bool := (List.finRange 8).any (compCounts cfg comps)

/-- The detail of S47: the lowest index that counts (R149). -/
def osvDetail (cfg : OsvCfg) (comps : Vector Comp 8) : Byte :=
  match (List.finRange 8).find? (compCounts cfg comps) with
  | some i => BitVec.ofNat 8 i.val
  | none => 0

/-! ### Clock monitor -/

/-- The detail of a deviating count, saturated at 254 (R172). -/
def clockDetail (n : Nat) : Byte := BitVec.ofNat 8 (min n 254)

/-- A window is evaluated: 94 to 106 batches are good (R172). -/
def clockJudge (n : Nat) : Option Byte := if 94 ≤ n ∧ n ≤ 106 then none else some (clockDetail n)

/-- Batches without a window end after which the reference is missing (R172). -/
def clockMissing : Nat := 200

/-- The clock monitor's step of Stage A: a window that has ended is evaluated and this batch is the first of the next one;
otherwise the batch is counted, and the 200th without a window end is a missing reference (R172). -/
def clockStep (windowEnd : Bool) (c : Clock) : Clock :=
  if windowEnd then { c with monCond := clockJudge c.winCount, winCount := 1 }
  else if clockMissing ≤ c.winCount + 1 then { c with monCond := some 255, winCount := 0 }
  else { c with winCount := c.winCount + 1 }

end Sys2Proof.Machine
end

