-- ==== Sys2Proof/Machine/OutputStage.lean ====
section
/-!
DEFINITION. The Output Stage: the levels of every supervisor state (R140, R141) and the error signal pair (R142 to R145).
-/

namespace Sys2Proof.Machine

/-- The form that R141 requires of the error pair: the reset levels are held, the healthy form in STATIC whatever EP_PROTO,
the healthy form of the running protocol, or the fault form. -/
inductive PairNeed where
  | hold
  | standbyStatic
  | healthy
  | fault
deriving DecidableEq, Repr

/-- The table of R141, column EP0/EP1. -/
def pairNeed (x : SupState) (a : ActivePlan) : PairNeed :=
  match x with
  | .init => .hold
  | .normal => .healthy
  | .alert => .healthy
  | .safe => if a.epFault then .fault else .healthy
  | .lockdown => .fault
  | .standby => .standbyStatic
  | .waking => .standbyStatic

/-- ANTIPHASE begins in phase A, its next exchange EP_HALF later (R143). -/
def antiphaseBegin (c : EpCfg) (now : Tick) : Pair := .antiphase true (addTicks now (msTicks c.half)) false

/-- The healthy form begins in the running protocol (R142). -/
def healthyBegin (c : EpCfg) (now : Tick) : Pair :=
  match c.proto with
  | .static => .static
  | .antiphase => antiphaseBegin c now

/-- A HEALTHY pair in ANTIPHASE: in the Stage E in which the exchange is due it exchanges phases, or resolves a pending change
to STATIC (R143, R144). -/
def exchangeStep (c : EpCfg) (now : Tick) (p : Pair) : Pair :=
  match p with
  | .antiphase ph due pending =>
    if isDue now due then
      if pending then .static else .antiphase (!ph) (addTicks now (msTicks c.half)) false
    else .antiphase ph due pending
  | .static => .static
  | .fault => .fault
  | .reset => .reset

/-- The pair after Stage E (R142 to R145). -/
def pairNext (c : EpCfg) (now : Tick) (need : PairNeed) (p : Pair) : Pair :=
  match need with
  | .hold => p
  | .fault => .fault
  | .standbyStatic => .static
  | .healthy =>
    match p with
    | .antiphase ph due pending => exchangeStep c now (.antiphase ph due pending)
    | .static => healthyBegin c now
    | .fault => healthyBegin c now
    | .reset => healthyBegin c now

/-- EP0 and EP1 of a pair, 1 for high; the fault form is that of the running protocol (R142). -/
def pairLevels (c : EpCfg) (p : Pair) : Bool × Bool :=
  match p with
  | .reset => (false, false)
  | .fault =>
    match c.proto with
    | .static => (false, true)
    | .antiphase => (false, false)
  | .static => (true, false)
  | .antiphase ph _ _ => (ph, !ph)

/-- An APPLY of EP_PROTO to a pair that emits ANTIPHASE records or cancels a pending change (R144). -/
def pairApply (new : EpCfg) (p : Pair) : Pair :=
  match p with
  | .antiphase ph due _ => .antiphase ph due (new.proto == .static)
  | .static => .static
  | .fault => .fault
  | .reset => .reset

/-- SSO0 to SSO3, 1 for high, the operational level (R141). -/
def ssoLevels (x : SupState) (a : ActivePlan) : BitVec 4 :=
  match x with
  | .init => 0
  | .normal => 0xF
  | .alert => 0xF
  | .safe => ~~~a.ssoMask
  | .lockdown => 0
  | .standby => 0xF
  | .waking => 0xF

/-- nHRST, 1 for released (R141). -/
def nhrstLevel (x : SupState) (h : HostReset) : Bool :=
  match x with
  | .init => false
  | .lockdown => false
  | .safe =>
    match h with
    | .pulsing _ => false
    | .idle => true
    | .delaying _ _ => true
  | .normal => true
  | .alert => true
  | .standby => true
  | .waking => true

/-- PWREN, 1 for asserted (R141). -/
def pwrenLevel (x : SupState) (p : PowerCut) : Bool :=
  match x with
  | .init => false
  | .lockdown => false
  | .safe =>
    match p with
    | .cut => false
    | .idle => true
    | .delaying _ => true
  | .normal => true
  | .alert => true
  | .standby => true
  | .waking => true

/-- The commanded levels of the eight outputs, numbered as in R140, from the supervisor's state and the pair (R141). -/
def commandedLevels (c : EpCfg) (u : Supervisor) (p : Pair) : BitVec 8 :=
  match u.state with
  | .init => resetLevels
  | _ =>
    (bit (pwrenLevel u.state u.powerCut) : BitVec 1) ++ (bit (nhrstLevel u.state u.hostReset) : BitVec 1) ++
      (bit (pairLevels c p).2 : BitVec 1) ++ (bit (pairLevels c p).1 : BitVec 1) ++ ssoLevels u.state u.active

/-- The levels are driven: every output whose commanded level changes starts its settle allowance (R140, R147). -/
def driveLevels (new : BitVec 8) (o : Outputs) : Outputs :=
  { o with
    level := new
    comps := vmap (fun i c => if new.getLsbD i.val = o.level.getLsbD i.val then c else compSettle c) o.comps }

/-- Stage E: the pair, then every commanded level (R73, R140). -/
def stageE (s : State) : State :=
  let c := s.prof.running.ep
  let p := pairNext c s.now (pairNeed s.sup.state s.sup.active) s.out.pair
  s.setOut { driveLevels (commandedLevels c s.sup p) s.out with pair := p }

end Sys2Proof.Machine
end

