-- ==== Sys2Proof/Machine/PeerLink.lean ====
section
/-!
DEFINITION. The Peer Event Link (chapter 3): receive events, the Link Inbox, intake, the Node Table, the code sets, the leaky
counter, the transmitter, and what configuration, STANDBY and WAKING do to them.
-/

namespace Sys2Proof.Machine

/-- A watched node: its bit is set in NODE_MASK and it is not OWN_NODE (chapter 3). -/
def watched (c : LinkCfg) (n : Fin 8) : Bool := c.nodeMask.getLsbD n.val && n != c.ownNode

/-- The link operates: LINK_ENABLE, outside INIT and STANDBY (R54). -/
def linkOperates (c : LinkCfg) (x : SupState) : Bool :=
  c.enable && match x with
    | .init => false
    | .standby => false
    | .waking => true
    | .normal => true
    | .alert => true
    | .safe => true
    | .lockdown => true

/-! ### The receiver -/

/-- A truncation is counted, with the leaky counter (R42, R43, R51). -/
def countTruncated (l : Link) : Link := { l with truncation := satInc l.truncation, leaky := satInc l.leaky }

/-- A framing failure is counted (R42, R43, R51). -/
def countFraming (l : Link) : Link := { l with framing := satInc l.framing, leaky := satInc l.leaky }

/-- A check code failure is counted (R42, R43, R51). -/
def countCrc (l : Link) : Link := { l with crc := satInc l.crc, leaky := satInc l.leaky }

/-- A malformed message is counted (R42, R43, R51). -/
def countMalformed (l : Link) : Link := { l with malformed := satInc l.malformed, leaky := satInc l.leaky }

/-- A foreign message is counted; the leaky counter is not changed (R42, R51). -/
def countForeign (l : Link) : Link := { l with foreign := satInc l.foreign }

/-- LRX has been idle for 2 byte-times (R41, R52). -/
def lineIdle (rx : RxState) : Bool :=
  match rx with
  | .ready => true
  | .off idle => idle
  | .wakeWatch idle => idle
  | .notReady _ => false
  | .assembling _ _ => false

/-- Bytes that a receiver which is not ready ignores: after a complete message they form an early run (R41), and the line is busy
(R57). -/
def rxIgnore (l : Link) : Link :=
  match l.rx with
  | .notReady (.afterComplete _) => { l with rx := .notReady (.afterComplete true) }
  | .notReady .uncounted => l
  | .notReady .afterFail => l
  | .off _ => { l with rx := .off false }
  | .wakeWatch _ => { l with rx := .wakeWatch false }
  | .ready => l
  | .assembling _ _ => l

/-- A message that a ready receiver has begun, be it in assembly or not before this event, fails, and its failure is counted;
otherwise its bytes are ignored (R41, R42). -/
def rxFail (count : Link → Link) (l : Link) : Link :=
  match l.rx with
  | .ready => { count l with rx := .notReady .afterFail }
  | .assembling _ _ => { count l with rx := .notReady .afterFail }
  | .notReady _ => rxIgnore l
  | .off _ => rxIgnore l
  | .wakeWatch _ => rxIgnore l

/-- The number of entries of the Link Inbox (R44). -/
def inboxCap : Nat := 4

/-- A checked message is appended to the inbox, or dropped with the overrun flag set (R44). -/
def inboxPut (m : LinkMsg) (l : Link) : Link :=
  if l.inbox.length < inboxCap then { l with inbox := l.inbox ++ [m] } else { l with overrun := true }

/-- KIND of a message, none for the invalid code 3 (R41). -/
def kindOf (k : BitVec 2) : Option PemKind :=
  if k = 0 then some .event else if k = 1 then some .clear else if k = 2 then some .beacon else none

/-- For EVENT and CLEAR, CODE is at most 15; a BEACON's CODE is not checked (R42). -/
def codeOk (k : PemKind) (code : Byte) : Bool :=
  match k with
  | .event => decide (code.toNat ≤ 15)
  | .clear => decide (code.toNat ≤ 15)
  | .beacon => true

/-- Steps 3 to 5 of R42 on a complete message. -/
def pemCheck (c : LinkCfg) (b0 b1 b2 b3 : Byte) (l : Link) : Link :=
  if b3 ≠ pemCrc b0 b1 b2 then countCrc l
  else
    match kindOf (pemKind b0) with
    | none => countMalformed l
    | some k =>
      if codeOk k b1 = false then countMalformed l
      else if watched c (nodeOf (pemNode b0)) = false then countForeign l
      else inboxPut { node := nodeOf (pemNode b0), kind := k, seq := pemSeq b0, code := b1, detail := b2 } l

/-- A complete four-byte message is checked, and the receiver is then not ready (R41, R42). -/
def pemReceive (c : LinkCfg) (b0 b1 b2 b3 : Byte) (l : Link) : Link :=
  { pemCheck c b0 b1 b2 b3 l with rx := .notReady (.afterComplete false) }

/-- A message that has received these bytes receives one more; with byte 3 it is complete (R41). -/
def rxByte (c : LinkCfg) (bytes : List Byte) (b : Byte) (l : Link) : Link :=
  match bytes with
  | b0 :: b1 :: b2 :: _ => pemReceive c b0 b1 b2 b l
  | _ => { l with rx := .assembling (bytes ++ [b]) [] }

/-- A message takes one level of LRX: outside a byte a low one is a start bit; a byte ends with its tenth level, the stop bit, which
is low in a framing error (R40, R41). -/
def rxTake (c : LinkCfg) (x : Bool) (bytes : List Byte) (bits : List Bool) (l : Link) : Link :=
  if bits = [] ∧ x = true then l
  else if bits.length < 9 then { l with rx := .assembling bytes (bits ++ [x]) }
  else
    match linkByte (bits ++ [x]) with
    | some b => rxByte c bytes b l
    | none => rxFail countFraming l

/-- The receiver takes one level of LRX (R40, R41): a ready one begins a message with a start bit, one that is not ready ignores the
bytes that a start bit begins, and to one that ignores LRX they only make the line busy (R57). -/
def rxLevel (c : LinkCfg) (x : Bool) (l : Link) : Link :=
  match l.rx with
  | .ready => rxTake c x [] [] l
  | .assembling bytes bits => rxTake c x bytes bits l
  | .notReady _ => if x then l else rxIgnore l
  | .off _ => if x then l else rxIgnore l
  | .wakeWatch _ => if x then l else rxIgnore l

/-- LRX has been idle for 2 byte-times: a receiver that was not ready becomes ready, and an early run that preceded the idle
is counted once; a message still unfinished has by then been truncated (R41). -/
def rxIdle (l : Link) : Link :=
  match l.rx with
  | .assembling _ _ => { countTruncated l with rx := .ready }
  | .notReady (.afterComplete true) => { countTruncated l with rx := .ready }
  | .notReady _ => { l with rx := .ready }
  | .off _ => { l with rx := .off true }
  | .wakeWatch _ => { l with rx := .wakeWatch true }
  | .ready => l

/-- An early run's idle reaches 2 byte-times: the run is counted once and the receiver is ready (R41). -/
def rxEarlyRun (l : Link) : Link :=
  match l.rx with
  | .notReady (.afterComplete _) => { countTruncated l with rx := .ready }
  | .notReady .uncounted => l
  | .notReady .afterFail => l
  | .off _ => l
  | .wakeWatch _ => l
  | .ready => l
  | .assembling _ _ => l

/-- A start bit recognised by a receiver that watches for one in STANDBY: its message is discarded and counted, without the
leaky counter (R58). -/
def rxWake (l : Link) : Link := { l with truncation := satInc l.truncation, rx := .notReady .uncounted }

/-! ### Node Table and code sets -/

/-- The node is a member of the set (section 3.5). -/
def inSet (set : BitVec 8) (n : Fin 8) : Bool := set.getLsbD n.val

/-- The set without the node. -/
def setWithout (set : BitVec 8) (n : Fin 8) : BitVec 8 := set &&& ~~~(BitVec.twoPow 8 n.val)

/-- The set with the node. -/
def setWith (set : BitVec 8) (n : Fin 8) : BitVec 8 := set ||| BitVec.twoPow 8 n.val

/-- A code 0..15 as the number of its set. -/
def codeIndex (code : Byte) : Fin 16 := ⟨code.toNat % 16, Nat.mod_lt _ (by decide)⟩

/-- Node `n` leaves the set of code `k`; a set that thereby becomes empty has its record emptied (R48, R50). -/
def leaveSet (n : Fin 8) (k : Fin 16) (l : Link) : Link :=
  let old := vget l.sets k
  if inSet old n then
    { l with
      sets := vset l.sets k (setWithout old n)
      last := if setWithout old n = 0 then vset l.last k none else l.last }
  else l

/-- Node `n` joins the set of code `k`, and the last-event record becomes this message's (R48). -/
def joinSet (n : Fin 8) (k : Fin 16) (detail : Byte) (l : Link) : Link :=
  { l with
    sets := vset l.sets k (setWith (vget l.sets k) n)
    last := vset l.last k (some { node := n, detail := detail }) }

/-- Node `n` leaves every code set (R50, R55). -/
def leaveAll (n : Fin 8) (l : Link) : Link := (List.finRange 16).foldl (fun l k => leaveSet n k l) l

/-- The codes whose set holds node `n`, as the mask of PURGE_NODE (R50). -/
def purgeMask (n : Fin 8) (l : Link) : BitVec 16 := bitsOf (fun k : Fin 16 => inSet (vget l.sets k) n)

/-- What a message that is not a duplicate does, by its KIND (R48). -/
def applyMsg (m : LinkMsg) (l : Link) : Link :=
  match m.kind with
  | .event => joinSet m.node (codeIndex m.code) m.detail l
  | .clear => leaveSet m.node (codeIndex m.code) l
  | .beacon => l

/-- How a sequence number compares with the last one heard (R46). -/
inductive SeqJudge where
  | fresh
  | duplicate
  | gap
deriving DecidableEq, Repr

/-- The table of R46. -/
def judgeSeq (last : Option (BitVec 3)) (s : BitVec 3) : SeqJudge :=
  match last with
  | none => .fresh
  | some l => if s = l + 1 then .fresh else if s = l then .duplicate else .gap

/-- A message of a watched node is processed against the Node Table and then, unless it is a duplicate, against the code sets
(R46, R48); it lowers the leaky counter (R43). -/
def takeMsg (m : LinkMsg) (l : Link) : Link :=
  let j := judgeSeq (vget l.nodes m.node).lastSeq m.seq
  let l1 : Link :=
    { l with
      nodes := vset l.nodes m.node { lastSeq := some m.seq, nstate := .alive, silence := 0 }
      leaky := satDec l.leaky }
  match j with
  | .fresh => applyMsg m l1
  | .duplicate => { l1 with dup := satInc l1.dup }
  | .gap => applyMsg m { l1 with gap := satInc l1.gap }

/-- Intake: the oldest entry is removed and processed; one from a node that is no longer watched is discarded without effect
(R45, R55). Answers the node a message was taken from. -/
def linkIntake (c : LinkCfg) (l : Link) : Option (Fin 8) × Link :=
  match l.inbox with
  | [] => (none, l)
  | m :: rest =>
    if watched c m.node then (some m.node, takeMsg m { l with inbox := rest }) else (none, { l with inbox := rest })

/-- The silence step of one node (R47). -/
def silenceStep (c : LinkCfg) (taken : Option (Fin 8)) (n : Fin 8) (e : NodeEntry) : NodeEntry :=
  if watched c n = false ∨ e.nstate = .silent ∨ taken = some n then e
  else
    { e with
      silence := e.silence + 1
      nstate := if tenMsTicks c.timeout ≤ e.silence + 1 then .silent else e.nstate }

/-- The detail of PSn: LAST_SEQ in bits 2..0, bit 3 if present (R47). -/
def psDetail (e : NodeEntry) : Byte :=
  match e.lastSeq with
  | none => 0
  | some x => (0 : BitVec 4) ++ (1 : BitVec 1) ++ x

/-- The condition of S44 is evaluated from the leaky counter and the overrun flag (R43). -/
def judgeS44 (c : LinkCfg) (l : Link) : Link :=
  { l with
    s44 := decide (c.errLimit.toNat ≤ l.leaky.toNat) || l.overrun
    s44Detail := (bit l.overrun : BitVec 1) ++ (0 : BitVec 2) ++ l.leaky }

/-- The link begins to operate, after INIT or with the first tick of WAKING: a receiver that was not watching the line is not
ready (R56, R58). -/
def rxStart (l : Link) : Link :=
  match l.rx with
  | .off _ => { l with rx := .notReady .uncounted }
  | .wakeWatch _ => { l with rx := .notReady .uncounted }
  | .notReady _ => l
  | .ready => l
  | .assembling _ _ => l

/-- A watched node that is not SILENT has its SILENCE set to 0 as the link resumes (R58). -/
def restartSilence (c : LinkCfg) (n : Fin 8) (e : NodeEntry) : NodeEntry :=
  if watched c n = true ∧ e.nstate ≠ .silent then { e with silence := 0 } else e

/-- The first tick of WAKING resumes a suspended link (R58). DEDUCED: SILENCE is set to 0 before that tick's own silence step,
which then counts it as the first tick of silence (log 33). -/
def linkResume (c : LinkCfg) (l : Link) : Link :=
  if l.suspended then { l with nodes := vmap (restartSilence c) l.nodes, beacon := 0, suspended := false } else l

/-- The link's part of Stage A: a suspended link resumes first (R58; log 33), then intake, silence, integrity (R45). -/
def linkStep (c : LinkCfg) (l : Link) : Link :=
  let r := linkIntake c (linkResume c (rxStart l))
  judgeS44 c { r.2 with nodes := vmap (silenceStep c r.1) r.2.nodes }

/-! ### The transmitter -/

/-- The announcement of a supervisor state, as its four bytes (R52). -/
def beaconFlight (own : Fin 8) (seq : BitVec 3) (x : SupState) : Flight :=
  let b0 := pemByte0 (BitVec.ofNat 3 own.val) 2 seq
  let b2 : Byte := (stateCode x).setWidth 8
  { b0 := b0, b1 := 0, b2 := b2, b3 := pemCrc b0 0 b2 }

/-- The line allows a message to begin flight: the receiver is ready and assembles no message, or (in STANDBY) it does not receive and
LRX has been idle for 2 byte-times (R52, R57). That idle of the line is all that R52 asks for in STANDBY is read from R57: DEDUCED
(log 40). -/
def lineFree (x : SupState) (rx : RxState) : Bool :=
  match rx with
  | .ready => true
  | .off idle => idle && x == .standby
  | .wakeWatch idle => idle && x == .standby
  | .notReady _ => false
  | .assembling _ _ => false

/-- The pending announcement moves into flight: SEQ is assigned and the check code computed (R52). -/
def txBegin (c : LinkCfg) (x : SupState) (l : Link) : Link :=
  match l.flight, l.pendingTx with
  | none, some p =>
    if lineFree x l.rx then
      { l with flight := some (beaconFlight c.ownNode l.txSeq p), pendingTx := none, txSeq := l.txSeq + 1 }
    else l
  | _, _ => l

/-- The bits that LTX sends for a message in flight; LTX is high when there is none (R40, R52). -/
def ltxBits (l : Link) : List Bool :=
  match l.flight with
  | none => []
  | some f => linkBits f.b0 ++ linkBits f.b1 ++ linkBits f.b2 ++ linkBits f.b3

/-- An announcement request for state `x` is handed: it replaces any pending one (R53). -/
def handRequest (x : SupState) (l : Link) : Link := { l with pendingTx := some x, announced := some x, beacon := 0 }

/-- The beacon timer after one more Stage F, and whether it has reached BEACON_PERIOD (R53). -/
def beaconDue (c : LinkCfg) (l : Link) : Bool := decide (tenMsTicks c.beaconPeriod ≤ l.beacon + 1)

/-- Stage F while the transmitter operates (R53). -/
def announce (c : LinkCfg) (x : SupState) (l : Link) : Link :=
  if l.announced ≠ some x ∨ beaconDue c l = true then handRequest x l else { l with beacon := l.beacon + 1 }

/-- Stage F of the link in a batch that began in `start` and is now in `x` (R53, R57; log 19). -/
def linkReport (c : LinkCfg) (start x : SupState) (l : Link) : Link :=
  if c.enable then
    match start with
    | .init => l
    | .standby => if x = .standby ∧ l.announced ≠ some .standby then handRequest x l else l
    | .waking => announce c x l
    | .normal => announce c x l
    | .alert => announce c x l
    | .safe => announce c x l
    | .lockdown => announce c x l
  else l

/-! ### Configuration, STANDBY and WAKING -/

/-- An APPLY stops the link (R54). -/
def linkStop (l : Link) : Link :=
  { l with
    rx := .off (lineIdle l.rx), inbox := [], overrun := false, leaky := 0, nodes := Vector.replicate 8 resetNode,
    sets := Vector.replicate 16 0, last := Vector.replicate 16 none, s44 := false, s44Detail := 0, pendingTx := none,
    beacon := 0, announced := none, suspended := false }

/-- A node that leaves the watched set loses its entry and its memberships (R55). -/
def unwatch (n : Fin 8) (l : Link) : Link := leaveAll n { l with nodes := vset l.nodes n resetNode }

/-- A node that joins the watched set starts from the initial values (R55). -/
def watchAgain (n : Fin 8) (l : Link) : Link := { l with nodes := vset l.nodes n resetNode }

/-- The change of one node's being watched (R55). -/
def rewatch (old new : LinkCfg) (l : Link) (n : Fin 8) : Link :=
  match watched old n, watched new n with
  | true, false => unwatch n l
  | false, true => watchAgain n l
  | true, true => l
  | false, false => l

/-- What an APPLY does to the link (R54, R55). -/
def linkApply (old new : LinkCfg) (l : Link) : Link :=
  match old.enable, new.enable with
  | true, false => linkStop l
  | false, true => { l with rx := .notReady .uncounted }
  | true, true => (List.finRange 8).foldl (rewatch old new) l
  | false, false => l

/-- Entry into STANDBY: the receiver abandons a message in assembly and watches for a start bit or ignores LRX; everything else keeps its
value (R57). -/
def linkStandby (c : LinkCfg) (l : Link) : Link :=
  if c.enable then { l with rx := if c.wake then .wakeWatch (lineIdle l.rx) else .off (lineIdle l.rx), suspended := true } else l

/-- WAKING begins: an announcement still pending is discarded (R57). -/
def linkWaking (l : Link) : Link := { l with pendingTx := none }

end Sys2Proof.Machine
end

