-- ==== Sys2Proof/Machine/NvStore.lean ====
section
/-!
DEFINITION. The NV Controller (R164), the Reset-Cause Archive (R135 to R139), the banks (R152, R153, R160, R161) and the ways
a session ends without an APPLY (R157, R159).
-/

namespace Sys2Proof.Machine

/-! ### Banks -/

/-- The bank named `b`. -/
def bankOf (b : BankId) (p : ProfileStore) : Bank :=
  match b with
  | .bankA => p.bankA
  | .bankB => p.bankB

/-- The store with the bank named `b` replaced. -/
def setBank (b : BankId) (x : Bank) (p : ProfileStore) : ProfileStore :=
  match b with
  | .bankA => { p with bankA := x }
  | .bankB => { p with bankB := x }

/-- The state in which a bank is read: ERASED without the marker, VALID when the code matches the content, else DAMAGED (R152). -/
def readBank (x : Bank) : BankState :=
  if x.marker then
    match x.content with
    | some p => if x.code = Config.profileCode p then .valid x.gen p else .damaged
    | none => .damaged
  else .erased

/-- A bank whose commit is complete: content, GENERATION, check code, and the marker last (R160). -/
def writtenBank (g : Word) (p : Profile) : Bank :=
  { marker := true, gen := g, code := Config.profileCode p, content := some p }

/-- The store once the marker of bank `b` is removed, which is the first thing a commit does to it (R152, R160). -/
def removeMarker (b : BankId) (p : ProfileStore) : ProfileStore := setBank b { bankOf b p with marker := false } p

/-- `g1` is newer than `g2`: the difference modulo 65536 lies in 1..32767 (R152). -/
def genNewer (g1 g2 : Word) : Bool := decide (1 ≤ (g1 - g2).toNat ∧ (g1 - g2).toNat ≤ 32767)

/-- The code that S49's detail gives a bank that was refused: 0 ERASED, 1 DAMAGED (R153). -/
def bankCode (b : BankState) : Byte :=
  match b with
  | .erased => 0
  | .damaged => 1
  | .valid _ _ => 0

/-- The bank other than the current one, or A when there is none (R160). -/
def targetBank (cur : Option BankId) : BankId :=
  match cur with
  | some .bankA => .bankB
  | some .bankB => .bankA
  | none => .bankA

/-- The running configuration and the store record that the load of INIT makes of the two banks, judged as they stand (R153; log 44). -/
def loadBanks (p : ProfileStore) : ProfileStore :=
  let takeA (g : Word) (x : Profile) : ProfileStore :=
    { p with running := x, coded := x, curBank := some .bankA, gen := g, dflt := false, s49Detail := 0 }
  let takeB (g : Word) (x : Profile) : ProfileStore :=
    { p with running := x, coded := x, curBank := some .bankB, gen := g, dflt := false, s49Detail := 0 }
  match readBank p.bankA, readBank p.bankB with
  | .valid ga pa, .valid gb pb => if genNewer gb ga then takeB gb pb else takeA ga pa
  | .valid ga pa, .erased => takeA ga pa
  | .valid ga pa, .damaged => takeA ga pa
  | .erased, .valid gb pb => takeB gb pb
  | .damaged, .valid gb pb => takeB gb pb
  | a, b =>
    { p with running := defaultProfile, coded := defaultProfile, curBank := none, gen := 0, dflt := true,
             s49Detail := bankCode a ||| (bankCode b <<< 2) }

/-! ### Archive slots -/

/-- The claim passes its own check (R135; log 34). -/
def claimPasses (c : Claim) : Bool := c.check == Config.claimCheck c.ord

/-- The body passes its check code (R135; log 34). -/
def bodyPasses (b : Body) : Bool := b.code == Config.bodyCode b.entry

/-- The ordinal of a slot whose claim passes (R135). -/
def claimOrd (x : ArchSlot) : Option Byte :=
  match x.claim with
  | some c => if claimPasses c then some c.ord else none
  | none => none

/-- The state in which a slot is read (R135). -/
def readSlot (x : ArchSlot) : SlotState :=
  match x.claim, x.body with
  | none, none => .empty
  | some c, some b => if claimPasses c && bodyPasses b then .valid c.ord b.entry else .invalid (claimOrd x)
  | none, some _ => .invalid none
  | some _, none => .invalid (claimOrd x)

/-- A claim with its check (R135). -/
def makeClaim (o : Byte) : Claim := { ord := o, check := Config.claimCheck o }

/-- A slot whose writing is complete: the claim, the body, and the body's check code last (R137). -/
def writtenSlot (o : Byte) (e : ArchEntry) : ArchSlot :=
  { claim := some (makeClaim o), body := some { entry := e, code := Config.bodyCode e } }

/-- A claim that fails its check, of a free ordinal and with any check but the right one (log 7). -/
def failedClaim (r : Nat) : Claim :=
  let o := BitVec.ofNat 8 (r / 255)
  { ord := o, check := Config.claimCheck o + BitVec.ofNat 8 (r % 255 + 1) }

/-- Ordinal `b` follows ordinal `a` by 1 to 127 in modulo-256 order (R137). -/
def ordFollows (a b : Byte) : Bool := decide (1 ≤ (b - a).toNat ∧ (b - a).toNat ≤ 127)

/-- Slot `i` has a claim that no other claimed slot follows (R137). -/
def noneFollows (slots : Vector ArchSlot 4) (i : Fin 4) : Bool :=
  match claimOrd (vget slots i) with
  | none => false
  | some a =>
    (List.finRange 4).all (fun j =>
      j == i || match claimOrd (vget slots j) with
        | none => true
        | some b => !ordFollows a b)

/-- The newest slot, none when no claim passes (R137). Where the ordinals single out no slot, the choice is free (log 9). -/
def newestSlot (slots : Vector ArchSlot 4) : Option (Fin 4) :=
  if (List.finRange 4).all (fun j => (claimOrd (vget slots j)).isNone) then none
  else
    match (List.finRange 4).filter (noneFollows slots) with
    | [i] => some i
    | _ => some (Config.ambiguousNewest (slots.toList.map claimOrd))

/-- The slot an archive write chooses, and the ordinal it gives it (R137). -/
def archTarget (slots : Vector ArchSlot 4) : Fin 4 × Byte :=
  match newestSlot slots with
  | none => (0, 0)
  | some i => (i + 1, (claimOrd (vget slots i)).getD 0 + 1)

/-- The slot that ARCH_SEL value `k` selects: `k` places back in ring order from the newest, or from slot 0 when no claim
passes (R138). -/
def archSelect (slots : Vector ArchSlot 4) (k : Fin 4) : Fin 4 := (newestSlot slots).getD 0 - k

/-- The snapshot of the slot that `k` selects (R138). -/
def archSnapshot (k : Fin 4) (a : Archive) : Archive := { a with view := readSlot (vget a.slots (archSelect a.slots k)) }

/-- A completed archive write: the chosen slot is VALID with the entry (R137). R137 does not say at which moment of its 6 ms the write
chooses its slot; it is chosen here, at completion, from the slots as they then stand: DESIGN CHOICE, unsafe (log 42). -/
def archStore (e : ArchEntry) (a : Archive) : Archive :=
  { a with slots := vset a.slots (archTarget a.slots).1 (writtenSlot (archTarget a.slots).2 e) }

/-- A completed erasure: every slot is EMPTY (R139). -/
def archErase (a : Archive) : Archive := { a with slots := Vector.replicate 4 erasedSlot }

/-! ### Damage -/

/-- A slot in the check of whose claim these bits have flipped (R135; log 34). -/
def hurtClaim (flips : Byte) (x : ArchSlot) : ArchSlot :=
  { x with claim := x.claim.map (fun c => { c with check := c.check ^^^ flips }) }

/-- A slot in the check code of whose body these bits have flipped (R135; log 34). -/
def hurtBody (flips : Word) (x : ArchSlot) : ArchSlot :=
  { x with body := x.body.map (fun b => { b with code := b.code ^^^ flips }) }

/-- Nonvolatile memory after one damage (R135, R162; logs 34, 35). -/
def sufferDamage (d : NvDamage) (s : State) : State :=
  match d with
  | .claim i flips => s.setArch { s.arch with slots := vset s.arch.slots i (hurtClaim flips (vget s.arch.slots i)) }
  | .body i flips => s.setArch { s.arch with slots := vset s.arch.slots i (hurtBody flips (vget s.arch.slots i)) }
  | .code b flips => s.setProf (setBank b { bankOf b s.prof with code := (bankOf b s.prof).code ^^^ flips } s.prof)

/-! ### The controller -/

/-- The request is a commit. -/
def isCommit (op : NvOp) : Bool :=
  match op with
  | .commit _ _ _ => true
  | _ => false

/-- The request is an erasure of the archive. -/
def isErase (op : NvOp) : Bool :=
  match op with
  | .erase => true
  | _ => false

/-- An operation begins: a commit removes the marker of its target bank first (R152, R160; log 26). -/
def nvStart (op : NvOp) (s : State) : State :=
  match op with
  | .commit b _ _ => s.setProf (removeMarker b s.prof)
  | .load => s
  | .archWrite _ => s
  | .erase => s

/-- An idle controller begins the oldest request at this tick (R164). -/
def nvBegin (s : State) : State :=
  match s.nv.cur, s.nv.queue with
  | none, op :: rest => nvStart op (s.setNv { cur := some (op, s.now), queue := rest })
  | _, _ => s

/-- A request joins the queue, and begins at once if the controller is idle (R164). -/
def nvRequest (op : NvOp) (s : State) : State := nvBegin (s.setNv { s.nv with queue := s.nv.queue ++ [op] })

/-- The operation in progress is over, and the next one begins (R164). -/
def nvFinish (s : State) : State := nvBegin (s.setNv { s.nv with cur := none })

/-- What an erasure cut off at a slot leaves of it: erased, as it was, or INVALID (R139; log 7). -/
def cutSlot (r : Nat) (x : ArchSlot) : ArchSlot :=
  match r % 4 with
  | 0 => erasedSlot
  | 1 => x
  | 2 => { x with claim := some (failedClaim (r / 4)) }
  | _ => { x with body := none }

/-- An erasure cut off by a reset leaves each slot in a freely chosen one of its outcomes (R139; log 7). -/
def cutErase (s : State) : State :=
  (List.finRange 4).foldl
    (fun s i =>
      let d := drawNat s
      d.2.setArch { d.2.arch with slots := vset d.2.arch.slots i (cutSlot d.1 (vget d.2.arch.slots i)) }) s

/-- An archive write cut off by a reset leaves its slot INVALID, with its ordinal if the claim had been written (R137; log
7). The slot is the one that the slots give as the write is cut off: DESIGN CHOICE, unsafe (log 42). -/
def cutArchWrite (s : State) : State :=
  let d := drawNat s
  let t := archTarget s.arch.slots
  let c := if d.1 % 2 = 1 then makeClaim t.2 else failedClaim (d.1 / 2)
  d.2.setArch { d.2.arch with slots := vset d.2.arch.slots t.1 { claim := some c, body := none } }

/-- A commit that has begun and is stopped leaves its bank ERASED or DAMAGED (R161; log 7). -/
def cutCommit (b : BankId) (s : State) : State :=
  let d := drawBit s
  d.2.setProf (setBank b { bankOf b d.2.prof with marker := d.1, content := none } d.2.prof)

/-- The effect on nonvolatile memory of a reset that falls in the operation in progress (R137, R139, R161). -/
def nvInterrupt (s : State) : State :=
  match s.nv.cur with
  | none => s
  | some (.load, _) => s
  | some (.archWrite _, _) => cutArchWrite s
  | some (.erase, _) => cutErase s
  | some (.commit b _ _, _) => cutCommit b s

/-- An erasure is waiting or in progress (R139). -/
def erasePending (s : State) : Bool :=
  s.nv.queue.any isErase || match s.nv.cur with
    | some (op, _) => isErase op
    | none => false

/-- The requests without the commits are withdrawn from the queue; a commit in progress stops at once (R161). -/
def nvDropCommit (s : State) : State :=
  let s1 := s.setNv { s.nv with queue := s.nv.queue.filter (fun op => !isCommit op) }
  match s1.nv.cur with
  | some (.commit b _ _, _) => nvFinish (cutCommit b s1)
  | _ => s1

/-- A commit requested and not yet completed is abandoned (R161). -/
def abandonCommit (s : State) : State :=
  match s.prof.commit with
  | .busy => nvDropCommit (s.setProf { s.prof with commit := .abandoned })
  | _ => s

/-! ### Ends of a session -/

/-- The session is closed and its staging copy dropped (R157). -/
def closeSession (s : State) : State := s.setProf { s.prof with session := .closed }

/-- An open session is aborted: the staging copy dropped, a SESSION record with code ABORT, any commit abandoned (R159,
R161). Without an open session nothing happens. -/
def abortSession (s : State) : State :=
  if sessionOpen s then abandonCommit (writeRec (.session .abort) (closeSession s)) else s

/-- The session limit is due: the staging copy is dropped, a SESSION record with code TIMEOUT, any commit abandoned
(R157). -/
def timeoutSession (s : State) : State := abandonCommit (writeRec (.session .timeout) (closeSession s))

end Sys2Proof.Machine
end

