-- ==== Sys2Proof/Machine/Watchdog.lean ====
section
/-!
DEFINITION. The Service Watchdog (chapter 7): the challenge, violations, the phases and what other blocks do to them.
-/

namespace Sys2Proof.Machine

/-- One advance of the challenge (R116). -/
def nextChallenge (c : Byte) : Byte := if c.msb then (c <<< 1) ^^^ 0x71 else c <<< 1

/-- The expected answer (R116). -/
def expectedAnswer (cfg : WdCfg) (w : Watchdog) : Byte := w.challenge ^^^ cfg.mask

/-- A violation is counted and its kind recorded (R119). -/
def wdViolation (k : WdViol) (w : Watchdog) : Watchdog := { w with viol := satInc w.viol, last := k }

/-- The phase INITIAL entered at `now` (R115). -/
def wdInitial (cfg : WdCfg) (now : Tick) : WdPhase := .initial (addTicks now (tenMsTicks cfg.initial))

/-- The phase CLOSED entered at `now` (R115). -/
def wdClosed (cfg : WdCfg) (now : Tick) : WdPhase := .closed (addTicks now (msTicks cfg.closed))

/-- The phase OPEN entered at `now` (R115). -/
def wdOpen (cfg : WdCfg) (now : Tick) : WdPhase := .opn (addTicks now (msTicks cfg.opn))

/-- An OPEN or INITIAL phase that is due: LATE, the challenge advances, CLOSED (R118). -/
def wdLate (cfg : WdCfg) (now : Tick) (w : Watchdog) : Watchdog :=
  { wdViolation .late w with phase := wdClosed cfg now, challenge := nextChallenge w.challenge }

/-- The watchdog's step of Stage A (R118). -/
def wdStep (cfg : WdCfg) (now : Tick) (w : Watchdog) : Watchdog :=
  match w.phase with
  | .off => w
  | .held => w
  | .closed due => if isDue now due then { w with phase := wdOpen cfg now } else w
  | .opn due => if isDue now due then wdLate cfg now w else w
  | .initial due => if isDue now due then wdLate cfg now w else w

/-- The host is out of reach: a running phase becomes HELD (R121, R122). -/
def wdHold (w : Watchdog) : Watchdog :=
  match w.phase with
  | .off => w
  | .held => w
  | .initial _ => { w with phase := .held }
  | .closed _ => { w with phase := .held }
  | .opn _ => { w with phase := .held }

/-- The host is given back: HELD becomes INITIAL (R121). -/
def wdResume (cfg : WdCfg) (now : Tick) (w : Watchdog) : Watchdog :=
  match w.phase with
  | .held => { w with phase := wdInitial cfg now }
  | _ => w

/-- The end of WAKING: HELD becomes INITIAL, and OFF too if the watchdog is enabled (R122). -/
def wdAfterWaking (cfg : WdCfg) (now : Tick) (w : Watchdog) : Watchdog :=
  match w.phase with
  | .held => { w with phase := wdInitial cfg now }
  | .off => if cfg.enable then { w with phase := wdInitial cfg now } else w
  | _ => w

/-- The end of INIT in NORMAL or SAFE (R120). -/
def wdAfterInit (cfg : WdCfg) (now : Tick) (w : Watchdog) : Watchdog :=
  if cfg.enable then { w with phase := wdInitial cfg now } else w

/-- Entry into LOCKDOWN: OFF, everything else kept (R120). -/
def wdOff (w : Watchdog) : Watchdog := { w with phase := .off }

/-- An APPLY changes the watchdog by the change of WD_ENABLE (R123). -/
def wdApply (old new : WdCfg) (pulsing : Bool) (now : Tick) (w : Watchdog) : Watchdog :=
  match old.enable, new.enable with
  | false, true => { w with phase := if pulsing then .held else wdInitial new now }
  | true, false => { w with phase := .off, viol := 0 }
  | _, _ => w

/-- The condition of S46: WD_VIOL is at least WD_LIMIT (R119). -/
def wdCond (cfg : WdCfg) (w : Watchdog) : Bool := decide (cfg.limit.toNat ≤ w.viol.toNat)

/-- The codes of the violation kinds (R115). -/
def wdViolCode (k : WdViol) : BitVec 2 :=
  match k with
  | .none => 0
  | .early => 1
  | .wrong => 2
  | .late => 3

/-- The codes of the phases (R115). -/
def wdPhaseCode (p : WdPhase) : BitVec 3 :=
  match p with
  | .off => 0
  | .held => 1
  | .initial _ => 2
  | .closed _ => 3
  | .opn _ => 4

/-- The detail of S46 while its condition is present: WD_VIOL in bits 2..0, the last kind in bits 5..4 (R119). -/
def wdDetail (w : Watchdog) : Byte := (0 : BitVec 2) ++ wdViolCode w.last ++ (0 : BitVec 1) ++ w.viol

/-- The outcomes of a judged SERVICE (R117). -/
inductive WdOutcome where
  | good
  | first
  | early
  | wrong
deriving DecidableEq, Repr

/-- The outcome codes (R117). -/
def wdOutcomeCode (o : WdOutcome) : Byte :=
  match o with
  | .good => 0
  | .first => 1
  | .early => 2
  | .wrong => 3

/-- How SERVICE is judged: the answer first, then WD_VIOL and the last kind, then the phase (R117). None in OFF and HELD.
The challenge advances after that in every other phase (`wdService`). -/
def wdJudge (cfg : WdCfg) (now : Tick) (answer : Byte) (w : Watchdog) : Option (WdOutcome × Watchdog) :=
  let correct := answer == expectedAnswer cfg w
  match w.phase with
  | .off => none
  | .held => none
  | .initial _ =>
    if correct then some (.first, { w with phase := wdClosed cfg now })
    else some (.wrong, { wdViolation .wrong w with phase := wdInitial cfg now })
  | .closed _ => some (.early, { wdViolation .early w with phase := wdClosed cfg now })
  | .opn _ =>
    if correct then some (.good, { w with viol := satDec w.viol, phase := wdClosed cfg now })
    else some (.wrong, { wdViolation .wrong w with phase := wdClosed cfg now })

/-- A SERVICE that is not refused: its outcome, and the watchdog after it with the challenge advanced (R116, R117). -/
def wdService (cfg : WdCfg) (now : Tick) (answer : Byte) (w : Watchdog) : Option (WdOutcome × Watchdog) :=
  match wdJudge cfg now answer w with
  | none => none
  | some (o, w') => some (o, { w' with challenge := nextChallenge w'.challenge })

end Sys2Proof.Machine
end

