-- ==== Sys2Proof/Machine/Supervisor.lean ====
section
/-!
DEFINITION. The Supervisor (chapter 5) and the Acknowledge and Escalation unit (chapter 6): episodes, the Alarm List, plans
and their merge, entry into SAFE, the host-reset and power-cut actions, ack requests, escalation, LOCKDOWN, dispatch and
release.
-/

namespace Sys2Proof.Machine

/-! ### Episodes -/

/-- An episode begins with this first source (R80). -/
def beginEpisode (src : SrcId) (s : State) : State :=
  s.setSup { s.sup with episode := s.sup.episode + 1, first := some src }

/-- The episode ends: its first source becomes absent and the escalation level returns to 0 (R80, R110). -/
def endEpisode (s : State) : State :=
  (s.setSup { s.sup with first := none }).setAck { s.ack with level := 0 }

/-! ### The Alarm List -/

/-- The number of entries of the Alarm List (R85). -/
def alarmCap : Nat := 8

/-- Entry `x` stands before entry `y`: earlier expiry, or the same expiry and a lower source number (R85). -/
def alarmBefore (x y : Alarm) : Bool :=
  if x.expiry = y.expiry then decide (x.src.val < y.src.val) else isDue y.expiry x.expiry

/-- A new entry at its place in the order (R85). -/
def insertAlarm (x : Alarm) : List Alarm → List Alarm
  | [] => [x]
  | y :: ys => if alarmBefore x y then x :: y :: ys else y :: insertAlarm x ys

/-- Entries are removed; a list that thereby becomes empty in ALERT returns the supervisor to NORMAL and ends the episode
(R86). -/
def dropAlarms (gone : Alarm → Bool) (s : State) : State :=
  let rest := s.sup.alarms.filter (fun x => !gone x)
  let s1 := s.setSup { s.sup with alarms := rest }
  if s.sup.state = .alert ∧ s.sup.alarms ≠ [] ∧ rest = [] then endEpisode (changeState .normal s1) else s1

/-- The entry of a source that returns to QUIET is removed (R86). -/
def dropAlarmOf (src : SrcId) (s : State) : State := dropAlarms (fun x => x.src == src) s

/-! ### The host-reset and power-cut actions and the ack deadline -/

/-- A RUNNING deadline becomes WAITING when a pulse begins (R101). -/
def pauseDeadline (a : AckUnit) : AckUnit :=
  match a.req with
  | none => a
  | some r => { a with req := some { r with deadline := none } }

/-- A WAITING deadline becomes RUNNING when the host-reset action returns to IDLE (R101). -/
def startDeadline (limit : Byte) (now : Tick) (a : AckUnit) : AckUnit :=
  match a.req with
  | none => a
  | some r =>
    match r.deadline with
    | some _ => a
    | none => { a with req := some { r with deadline := some (addTicks now (tenMsTicks limit)) } }

/-- The host-reset action enters PULSING: the deadline waits (R101) and the watchdog is held (R121). -/
def pulseBegin (stop : Tick) (s : State) : State :=
  ((s.setSup { s.sup with hostReset := .pulsing stop }).setAck (pauseDeadline s.ack)).setWd (wdHold s.wd)

/-- The host-reset action returns to IDLE at the end of a pulse: a waiting deadline starts (R101) and the watchdog restarts
(R121). -/
def pulseOver (s : State) : State :=
  ((s.setSup { s.sup with hostReset := .idle }).setAck
    (startDeadline s.prof.running.sup.ackLimit s.now s.ack)).setWd (wdResume s.prof.running.wd s.now s.wd)

/-- A plan with HRST PULSE requests the host-reset action; unless IDLE the request is ignored (R93). -/
def requestPulse (pl : Plan) (now : Tick) (x : HostReset) : HostReset :=
  match x with
  | .idle => if pl.hrst then .delaying (addTicks now (msTicks pl.hrstDelay)) (msTicks pl.hrstPulse) else .idle
  | .delaying a n => .delaying a n
  | .pulsing e => .pulsing e

/-- A plan with PWR_CUT yes requests the power-cut action; unless IDLE the request is ignored (R94). -/
def requestCut (pl : Plan) (now : Tick) (x : PowerCut) : PowerCut :=
  match x with
  | .idle => if pl.pwrCut then .delaying (addTicks now (msTicks pl.pwrDelay)) else .idle
  | .delaying d => .delaying d
  | .cut => .cut

/-! ### Plans -/

/-- Plan `n` of the running configuration (R89). -/
def planOf (s : State) (n : Fin 8) : Plan := vget s.prof.running.plans n

/-- The later of two ticks (R92). -/
def laterTick (x y : Tick) : Tick := if isDue x y then x else y

/-- The dwell end after plan `pl` is applied at `now` (R92). -/
def mergeDwell (pl : Plan) (now : Tick) (d : Option Tick) : Option Tick :=
  match d with
  | none => some (addTicks now (tenMsTicks pl.dwell))
  | some e => some (laterTick (addTicks now (tenMsTicks pl.dwell)) e)

/-- The mask, flags and set of plans after plan `n` is merged (R91). -/
def mergeActive (n : Fin 8) (pl : Plan) (a : ActivePlan) : ActivePlan :=
  { ssoMask := a.ssoMask ||| pl.ssoMask
    epFault := a.epFault || pl.epFault
    pwrCut := a.pwrCut || pl.pwrCut
    autoRelease := a.autoRelease || pl.autoRelease
    ack := a.ack || effectiveAck pl
    plans := a.plans ||| BitVec.twoPow 8 n.val }

/-- A plan with EP_FAULT restarts the EP minimum-active timer (R146). -/
def mergeEpMin (pl : Plan) (min : Byte) (now : Tick) (x : Option Tick) : Option Tick :=
  if pl.epFault then some (addTicks now (tenMsTicks min)) else x

/-- Plan `n` is applied: merged into the active plan, its dwell, actions and timer started (R91). -/
def mergePlan (n : Fin 8) (s : State) : State :=
  let pl := planOf s n
  (s.setSup
    { s.sup with
      active := mergeActive n pl s.sup.active
      dwell := mergeDwell pl s.now s.sup.dwell
      hostReset := requestPulse pl s.now s.sup.hostReset
      powerCut := requestCut pl s.now s.sup.powerCut }).setOut
    { s.out with epMin := mergeEpMin pl s.prof.running.ep.min s.now s.out.epMin }

/-! ### Ack requests and entry into SAFE -/

/-- An ack request is created with the low 8 bits of a record's SEQ as its token, replacing any pending one; its deadline
runs at once when the host-reset action is IDLE (R100, R101). -/
def createRequest (seq : Word) (s : State) : State :=
  let due := if hostResetIdle s then some (addTicks s.now (tenMsTicks s.prof.running.sup.ackLimit)) else none
  s.setAck { s.ack with req := some { token := seq.setWidth 8, created := s.now, deadline := due, bad := false } }

/-- Entry into SAFE with plan `n` and a cause source, after any new episode has begun (R90). -/
def enterSafe (n : Fin 8) (cause : SrcId) (s : State) : State :=
  let s1 := changeState .safe (s.setSup { s.sup with alarms := [] })
  let s2 := mergePlan n (s1.setSup { s1.sup with cause := some cause, active := emptyPlan, dwell := none })
  abortSession (if s2.sup.active.ack then createRequest s.jrn.seq s2 else s2)

/-! ### LOCKDOWN and escalation -/

/-- The archive entry of an entry into LOCKDOWN, captured at its request (R136). -/
def lockdownEntry (s : State) : ArchEntry :=
  { cause := .lockdownEntry, prior := some .safe, level := 3, first := s.sup.first, jseq := some s.jrn.seq,
    resets := s.ret.resets }

/-- Entry into LOCKDOWN by escalation, in the order of R111: STATE record; request discarded; dwell and actions cleared, the
EP timer ended (R146); session aborted; sticky flag set; archive entry requested; watchdog OFF. -/
def enterLockdown (s : State) : State :=
  let s1 := changeState .lockdown s
  let s2 := s1.setAck { s1.ack with req := none }
  let s3 := s2.setSup { s2.sup with dwell := none, hostReset := .idle, powerCut := .idle }
  let s4 := abortSession (s3.setOut { s3.out with epMin := none })
  let s5 := s4.setRet { s4.ret with sticky := true }
  let s6 := nvRequest (.archWrite (lockdownEntry s5)) s5
  s6.setWd (wdOff s6.wd)

/-- The pulse of level 2: at once, with P7's HRST_PULSE; a pulse in progress is lengthened (R108). -/
def escalationPulse (s : State) : State :=
  let stop := addTicks s.now (msTicks (planOf s 7).hrstPulse)
  match s.sup.hostReset with
  | .idle => pulseBegin stop s
  | .delaying _ _ => pulseBegin stop s
  | .pulsing e => s.setSup { s.sup with hostReset := .pulsing (laterTick stop e) }

/-- The level after a step, and the level whose action the step performs (R106). -/
def escalationTarget (ceiling level : BitVec 2) : BitVec 2 × BitVec 2 :=
  if level < ceiling then (level + 1, level + 1) else (level, ceiling)

/-- The action of a level: R107 for 1, R108 for 2, LOCKDOWN for 3; `seq` is the SEQ of the step's ESCALATE record (R100). A
ceiling of 0 is not storable (R182) and would have no action. -/
def escalationAction (level : BitVec 2) (seq : Word) (s : State) : State :=
  match level.toNat with
  | 0 => s
  | 1 => createRequest seq (mergePlan 7 s)
  | 2 => createRequest seq (escalationPulse s)
  | _ => enterLockdown s

/-- One escalation step: the level, the ESCALATE record, the action (R106). -/
def escalate (s : State) : State :=
  let t := escalationTarget s.prof.running.sup.escCeiling s.ack.level
  let s1 := writeRec (.escalate t.1) (s.setAck { s.ack with level := t.1 })
  escalationAction t.2 s.jrn.seq s1

/-! ### Dispatch -/

/-- The RAISE record of an occurrence (R84, R126). -/
def raiseBody (o : Occ) (exhausted : Bool) : RecBody :=
  .raise o.src o.cls o.injected o.promoted exhausted o.node o.detail

/-- A commanded self-test run is aborted by the dispatch of an ALARM or CRITICAL occurrence (R170). -/
def abortSelftest (s : State) : State :=
  if selftestRunning s then s.setSt { s.st with result := .aborted } else s

/-- In NORMAL a dispatch that leaves it begins an episode (R80, R82). -/
def episodeIfNormal (src : SrcId) (s : State) : State :=
  if s.sup.state = .normal then beginEpisode src s else s

/-- An ALARM occurrence with room in the Alarm List (R82, R85). -/
def dispatchAlarm (o : Occ) (s : State) : State :=
  let s1 := writeRec (raiseBody o false) (episodeIfNormal o.src s)
  let entry : Alarm := { src := o.src, expiry := addTicks s1.now (msTicks o.alarmTime), plan := o.plan }
  let s2 := s1.setSup { s1.sup with alarms := insertAlarm entry s1.sup.alarms }
  if s2.sup.state = .normal then changeState .alert s2 else s2

/-- An ALARM occurrence with the Alarm List full: exhaustion (R87). -/
def dispatchExhausted (o : Occ) (s : State) : State :=
  let s1 := writeRec (raiseBody o true) (episodeIfNormal o.src s)
  enterSafe o.plan o.src (s1.setSup { s1.sup with fullCount := satInc s1.sup.fullCount })

/-- A CRITICAL occurrence in NORMAL or ALERT (R82). -/
def dispatchCritical (o : Occ) (s : State) : State :=
  enterSafe o.plan o.src (writeRec (raiseBody o false) (episodeIfNormal o.src s))

/-- Dispatch in NORMAL and ALERT (R82). -/
def dispatchCalm (o : Occ) (s : State) : State :=
  match o.cls with
  | .notice => writeRec (raiseBody o false) s
  | .alarm =>
    if s.sup.alarms.length < alarmCap then dispatchAlarm o (abortSelftest s) else dispatchExhausted o (abortSelftest s)
  | .critical => dispatchCritical o (abortSelftest s)

/-- A merge by a CRITICAL dispatch in SAFE creates a request when none is pending, the merged plan's effective ACK is yes and
the active plan's PWR_CUT is no after the merge (R100). -/
def mergeRequests (o : Occ) (before after : State) : Bool :=
  before.ack.req.isNone && effectiveAck (planOf before o.plan) && !after.sup.active.pwrCut

/-- A request is pending that was created in an earlier tick: a CRITICAL dispatched now is a compound fault (R105). -/
def compoundFault (s : State) : Bool :=
  match s.ack.req with
  | none => false
  | some r => r.created != s.now

/-- A CRITICAL occurrence in SAFE: RAISE record, merge, request, abort of an open session, and for a compound fault an
escalation step (R83, R100, R105). -/
def dispatchMerge (o : Occ) (s : State) : State :=
  let s1 := mergePlan o.plan (writeRec (raiseBody o false) s)
  let s2 := abortSession (if mergeRequests o s s1 then createRequest s.jrn.seq s1 else s1)
  if compoundFault s then escalate s2 else s2

/-- Dispatch in SAFE (R83). -/
def dispatchSafe (o : Occ) (s : State) : State :=
  match o.cls with
  | .notice => writeRec (raiseBody o false) s
  | .alarm => writeRec (raiseBody o false) (abortSelftest s)
  | .critical => dispatchMerge o (abortSelftest s)

/-- The dispatch of one occurrence, by the supervisor state (R82, R83, R84). In INIT, STANDBY and WAKING no occurrence exists
(R69). -/
def dispatch (o : Occ) (s : State) : State :=
  match s.sup.state with
  | .normal => dispatchCalm o s
  | .alert => dispatchCalm o s
  | .safe => dispatchSafe o s
  | .lockdown => writeRec (raiseBody o false) s
  | .init => s
  | .standby => s
  | .waking => s

/-! ### Release -/

/-- The host-reset action is DELAYING or PULSING, or the power-cut action is DELAYING: ACTION_PENDING (R96). -/
def actionPending (s : State) : Bool :=
  !hostResetIdle s || match s.sup.powerCut with
    | .delaying _ => true
    | .idle => false
    | .cut => false

/-- The first reason that blocks a release, in the order of R96. -/
def releaseBlock (s : State) : Option Reason :=
  if s.ack.req.isSome then some .ackPending
  else if s.sup.dwell.isSome then some .dwellRunning
  else if actionPending s then some .actionPending
  else if s.out.epMin.isSome then some .epMinRunning
  else if severeLatched s then some .sourcesLatched
  else none

/-- A release from SAFE to NORMAL (R97, R110). -/
def release (s : State) : State :=
  let s1 := changeState .normal s
  endEpisode ((s1.setSup
    { s1.sup with active := emptyPlan, dwell := none, hostReset := .idle, powerCut := .idle, cause := none }))

/-! ### The categories of Stage D that belong to the Supervisor (R72) -/

/-- Category 1: the first entry of the Alarm List, if due, expires (R88). -/
def stepExpiry (s : State) : State :=
  match s.sup.alarms with
  | [] => s
  | x :: _ =>
    if s.sup.state = .alert ∧ isDue s.now x.expiry then enterSafe x.plan x.src (writeRec (.expiry x.src) s) else s

/-- The pending request's deadline is RUNNING and due (R102). -/
def deadlineDue (s : State) : Bool :=
  match s.ack.req with
  | none => false
  | some r => match r.deadline with
    | none => false
    | some d => isDue s.now d

/-- Categories 2 and 3: a due request expires, and its escalation step follows (R102, R106). -/
def stepDeadline (s : State) : State :=
  if s.sup.state = .safe ∧ deadlineDue s then escalate (s.setAck { s.ack with req := none }) else s

/-- Category 4, first part: a due start of the host-reset action (R93). -/
def stepPulseStart (s : State) : State :=
  match s.sup.hostReset with
  | .delaying start len =>
    if s.sup.state = .safe ∧ isDue s.now start then pulseBegin (addTicks s.now len) s else s
  | .idle => s
  | .pulsing _ => s

/-- Category 4, second part: a due end of a pulse (R93). -/
def stepPulseEnd (s : State) : State :=
  match s.sup.hostReset with
  | .pulsing stop => if s.sup.state = .safe ∧ isDue s.now stop then pulseOver s else s
  | .idle => s
  | .delaying _ _ => s

/-- Category 4, third part: a due power cut (R94). -/
def stepCut (s : State) : State :=
  match s.sup.powerCut with
  | .delaying due =>
    if s.sup.state = .safe ∧ isDue s.now due then s.setSup { s.sup with powerCut := .cut } else s
  | .idle => s
  | .cut => s

/-- Category 4: an end of a pulse, else a start (one action cannot have both in one tick), then a cut (R72). -/
def stepActions (s : State) : State := stepCut (stepPulseStart (stepPulseEnd s))

/-- Category 5: the end of dwell (R92). -/
def stepDwell (s : State) : State :=
  match s.sup.dwell with
  | none => s
  | some d => if s.sup.state = .safe ∧ isDue s.now d then s.setSup { s.sup with dwell := none } else s

/-- Category 6: the end of the EP minimum-active time (R146). -/
def stepEpMin (s : State) : State :=
  match s.out.epMin with
  | none => s
  | some d => if isDue s.now d then s.setOut { s.out with epMin := none } else s

/-- Category 7: the automatic release (R98). -/
def stepAutoRelease (s : State) : State :=
  if s.sup.state = .safe ∧ s.sup.active.autoRelease ∧ (releaseBlock s).isNone then release s else s

/-! ### Acknowledging -/

/-- What ACK_SAFE finds (R103). -/
inductive AckOutcome where
  | none
  | acked
  | bad
deriving DecidableEq, Repr

/-- ACK_SAFE with a token: no request, the right token (the request ends with an ACK record), or a bad token, the second of
which is an escalation trigger (R103, R104). -/
def acknowledge (token : Byte) (s : State) : AckOutcome × State :=
  match s.ack.req with
  | none => (.none, s)
  | some r =>
    if token = r.token then (.acked, writeRec .ack (s.setAck { s.ack with req := none }))
    else if r.bad then (.bad, escalate (s.setAck { s.ack with req := some { r with bad := false } }))
    else (.bad, s.setAck { s.ack with req := some { r with bad := true } })

end Sys2Proof.Machine
end

