-- ==== Sys2Proof/Machine/Sources.lean ====
section
/-!
DEFINITION. The Source Table: the condition, detail and NODE that each unit presents (R22, R43, R47, R49, R59 and the owning
chapters), their copy into the records (R59), Stage B (R61 to R66), arbitration (R68) and Stage C (R71).
-/

namespace Sys2Proof.Machine

/-- What a source stands for (table of section 4.1). -/
inductive SrcKind where
  | fl (n : Fin 16)
  | hb (n : Fin 4)
  | lc (k : Fin 16)
  | ps (n : Fin 8)
  | linkIntegrity
  | hostPort
  | watchdog
  | outputMismatch
  | selftestFail
  | profileFault
  | journalFull
  | clockMonitor
  | sw (n : Fin 4)
deriving DecidableEq, Repr

/-- The numbering of the sources (section 4.1). -/
def srcKind (i : SrcId) : SrcKind :=
  if h : i.val < 16 then .fl ⟨i.val, h⟩
  else if h : i.val < 20 then .hb ⟨i.val - 16, by omega⟩
  else if h : i.val < 36 then .lc ⟨i.val - 20, by omega⟩
  else if h : i.val < 44 then .ps ⟨i.val - 36, by omega⟩
  else if i.val = 44 then .linkIntegrity
  else if i.val = 45 then .hostPort
  else if i.val = 46 then .watchdog
  else if i.val = 47 then .outputMismatch
  else if i.val = 48 then .selftestFail
  else if i.val = 49 then .profileFault
  else if i.val = 50 then .journalFull
  else if i.val = 51 then .clockMonitor
  else .sw ⟨i.val - 52, by omega⟩

/-- Source S48/SELFTEST_FAIL. -/
def srcSelftest : SrcId := 48

/-- Source S49/PROFILE_FAULT. -/
def srcProfile : SrcId := 49

/-- The detail of S50 while present: pinned count in bits 5..0, policy in bit 7 (R134). -/
def journalDetail (p : JrnPolicy) (j : Journal) : Byte :=
  (bit (p == .keepNewest) : BitVec 1) ++ (0 : BitVec 1) ++ BitVec.ofNat 6 (pinnedCount j.recs)

/-- The condition that the unit of a source presents (section 4.1). -/
def unitCond (s : State) (i : SrcId) : Bool :=
  match srcKind i with
  | .fl n => flCond (vget s.fl n)
  | .hb n => hbCond (vget s.hb n)
  | .lc k => vget s.link.sets k != 0
  | .ps n => (vget s.link.nodes n).nstate == .silent
  | .linkIntegrity => s.link.s44
  | .hostPort => s.port.s45
  | .watchdog => wdCond s.prof.running.wd s.wd
  | .outputMismatch => osvCond s.prof.running.osv s.out.comps
  | .selftestFail => s.st.lastFail.isSome
  | .profileFault => s.prof.dflt
  | .journalFull => decide (s.jrn.recs.length = journalCap)
  | .clockMonitor => s.clk.monCond.isSome
  | .sw n => s.sw.getLsbD n.val

/-- The detail that goes with a condition that is present (R59). -/
def unitDetailOn (s : State) (i : SrcId) : Byte :=
  match srcKind i with
  | .fl n => (vget s.fl n).detail
  | .hb n => (vget s.hb n).detail
  | .lc k => match vget s.link.last k with
    | some e => e.detail
    | none => 0
  | .ps n => psDetail (vget s.link.nodes n)
  | .linkIntegrity => s.link.s44Detail
  | .hostPort => s.port.s45Detail
  | .watchdog => wdDetail s.wd
  | .outputMismatch => osvDetail s.prof.running.osv s.out.comps
  | .selftestFail => BitVec.ofNat 8 (s.st.lastFail.getD 0)
  | .profileFault => s.prof.s49Detail
  | .journalFull => journalDetail s.prof.running.jrn.policy s.jrn
  | .clockMonitor => s.clk.monCond.getD 0
  | .sw _ => 0

/-- The detail presented: 0 while the condition is absent (R22, R119). -/
def unitDetail (s : State) (i : SrcId) : Byte := if unitCond s i then unitDetailOn s i else 0

/-- The NODE that an LC source hands on with its condition; absent for every other source (R49, R59). -/
def unitNode (s : State) (i : SrcId) : Option (Fin 8) :=
  match srcKind i with
  | .lc k => (vget s.link.last k).map (fun e => e.node)
  | _ => none

/-- COND, detail and NODE of a record follow its unit (R59). -/
def copyOne (s : State) (i : SrcId) (r : SrcRec) : SrcRec :=
  { r with cond := unitCond s i, condDetail := unitDetail s i, condNode := unitNode s i }

/-- The copy at the end of Stage A (R59, R70). -/
def copyAll (s : State) : State := s.setSrc (vmap (copyOne s) s.src)

/-- After a command, COND follows for each source whose condition the command changed, `before` being the state in which the
command began to execute (R59; log 14). -/
def copyChanged (before s : State) : State :=
  s.setSrc (vmap (fun i r => if unitCond before i = unitCond s i then r else copyOne s i r) s.src)

/-! ### Raises -/

/-- PROMOTED: PROMOTE_AT is not 0 and COUNT is at least PROMOTE_AT (R65). -/
def promotedBy (d : Desc) (count : Byte) : Bool := d.promoteAt != 0 && decide (d.promoteAt.toNat ≤ count.toNat)

/-- Promotion by one step; CRITICAL cannot be promoted (R65). -/
def promoteCls (c : Cls) : Cls :=
  match c with
  | .notice => .alarm
  | .alarm => .critical
  | .critical => .critical

/-- The effective class of a raise (R65, R66). -/
def raiseCls (d : Desc) (promoted : Bool) : Cls := if promoted then promoteCls d.cls else d.cls

/-- PROMOTED is recomputed for every record (R65, R158, R163). -/
def recomputePromoted (p : Profile) (src : Vector SrcRec 56) : Vector SrcRec 56 :=
  vmap (fun i r => { r with promoted := promotedBy (vget p.desc i) r.count }) src

/-- The source record after a raise, in the order of R62. -/
def raiseRec (d : Desc) (r : SrcRec) : SrcRec :=
  let n := satInc r.count
  { r with
    state := .active
    count := n
    promoted := promotedBy d n
    eff := some (raiseCls d (promotedBy d n))
    detail := if r.cond then r.condDetail else 0xFF
    node := if r.cond then r.condNode else none }

/-- The occurrence that a raise creates, from the record after it (R62). -/
def raiseOcc (i : SrcId) (d : Desc) (r : SrcRec) : Occ :=
  let r' := raiseRec d r
  { src := i, cls := raiseCls d r'.promoted, plan := d.plan, priority := d.priority, alarmTime := d.alarmTime,
    detail := r'.detail, node := r'.node, injected := !r.cond,
    promoted := raiseCls d r'.promoted != d.cls }

/-- What a Stage B transition of a record causes beside its new record (R61). -/
inductive SrcEvent where
  | none
  | raise
  | clear
deriving DecidableEq, Repr

/-- The table of R61. -/
def srcStep (d : Desc) (r : SrcRec) : SrcRec × SrcEvent :=
  match r.state, effCond r with
  | .quiet, false => (r, .none)
  | .quiet, true => if d.enable then (raiseRec d r, .raise) else (r, .none)
  | .active, true => (r, .none)
  | .active, false =>
    match d.recovery with
    | .auto => ({ r with state := .quiet }, .clear)
    | .host => ({ r with state := .residual }, .none)
  | .residual, true => ({ r with state := .active }, .none)
  | .residual, false =>
    match d.recovery with
    | .auto => ({ r with state := .quiet }, .clear)
    | .host => (r, .none)

/-- A return to QUIET writes its CLEAR record and removes the source's alarm entry (R61, R74, R86). -/
def clearEffects (i : SrcId) (s : State) : State := dropAlarmOf i (writeRec (.clear i) s)

/-- Stage B for one source, collecting the occurrence of a raise (R61, R62). -/
def sourceStep (acc : State × List Occ) (i : SrcId) : State × List Occ :=
  let s := acc.1
  let d := vget s.prof.running.desc i
  let r := vget s.src i
  let x := srcStep d r
  let s1 := s.setSrc (vset s.src i x.1)
  match x.2 with
  | .none => (s1, acc.2)
  | .raise => (s1, acc.2 ++ [raiseOcc i d r])
  | .clear => (clearEffects i s1, acc.2)

/-- Stage B: the 56 records in ascending source number, and every waiting pulse hold has now been seen (R28, R61, R71). -/
def stageB (s : State) : State × List Occ :=
  let r := (List.finRange 56).foldl sourceStep (s, [])
  (r.1.setFl (vmap (fun _ u => flMarkSeen u) r.1.fl), r.2)

/-! ### Arbitration and Stage C -/

/-- The rank of a class in arbitration: CRITICAL first (R68). -/
def clsRank (c : Cls) : Nat :=
  match c with
  | .critical => 0
  | .alarm => 1
  | .notice => 2

/-- Occurrence `x` is dispatched before occurrence `y` (R68). -/
def occBefore (x y : Occ) : Bool :=
  if clsRank x.cls = clsRank y.cls then
    if x.priority = y.priority then decide (x.src.val < y.src.val) else decide (x.priority.toNat < y.priority.toNat)
  else decide (clsRank x.cls < clsRank y.cls)

/-- An occurrence at its place in arbitration order (R68). -/
def insertOcc (x : Occ) : List Occ → List Occ
  | [] => [x]
  | y :: ys => if occBefore x y then x :: y :: ys else y :: insertOcc x ys

/-- The occurrences of a tick in arbitration order (R68). -/
def arbitrate : List Occ → List Occ
  | [] => []
  | x :: xs => insertOcc x (arbitrate xs)

/-- Stage C: the occurrences dispatched one by one in arbitration order (R68, R71). -/
def stageC (occs : List Occ) (s : State) : State := (arbitrate occs).foldl (fun s o => dispatch o s) s

end Sys2Proof.Machine
end

