-- ==== Sys2Proof/Machine/Flags.lean ====
section
/-!
DEFINITION. The flags and status views: result, reason and state codes (R13, R14), the GLOBAL STATUS byte (R14), nATTN with
ATTN_SUM (R77), and nCRIT (R114).
-/

namespace Sys2Proof.Machine

/-- The result codes (R13). -/
def resCode (r : Res) : BitVec 5 :=
  match r with
  | .ok => 0
  | .noPrior => 1
  | .rejCrc => 2
  | .rejLength => 3
  | .rejTag => 4
  | .rejFormat => 5
  | .rejCommand => 6
  | .rejState => 7
  | .rejAccess => 8
  | .rejArg => 9
  | .refused => 10
  | .badToken => 11
  | .empty => 12
  | .locked => 13

/-- The reason codes of REFUSED (R13). -/
def reasonCode (r : Reason) : Byte :=
  match r with
  | .conditionPresent => 1
  | .disabled => 2
  | .nodeNotSilent => 3
  | .ackPending => 4
  | .dwellRunning => 5
  | .actionPending => 6
  | .epMinRunning => 7
  | .sourcesLatched => 8
  | .noAckPending => 9
  | .wdNotRunning => 10
  | .unlockSequence => 11
  | .badHbWindow => 12
  | .badAlarmTime => 13
  | .commitBusy => 14
  | .selftestBusy => 15
  | .sessionOpen => 16

/-- HP_CONSEC is 4 or more: HPORT_FAULT and the condition of S45 (R14, R18). -/
def hportFault (p : HostPort) : Bool := decide (4 ≤ p.consec.toNat)

/-- The GLOBAL STATUS byte as it stands (R14). -/
def globalStatus (s : State) : Byte :=
  stateCode s.sup.state ++ (bit s.attn.asserted : BitVec 1) ++ (bit s.crit : BitVec 1) ++
    (bit (sessionOpen s) : BitVec 1) ++ (bit (!s.jrn.recs.isEmpty) : BitVec 1) ++ (bit (hportFault s.port) : BitVec 1)

/-- Source `i` is latched and its descriptor in the running configuration has NOTIFY set (R77). -/
def notifies (s : State) (i : SrcId) : Bool := isLatched (vget s.src i) && (vget s.prof.running.desc i).notify

/-- The journal term of nATTN (R77). -/
def journalAttn (s : State) : Bool :=
  s.prof.running.jrn.attnLevel != 0 && decide (s.prof.running.jrn.attnLevel.toNat ≤ s.jrn.recs.length)

/-- nATTN and ATTN_SUM are recomputed (R77). -/
def computeAttn (s : State) : Attn :=
  { asserted := (List.finRange 56).any (notifies s) || journalAttn s
    count := (List.finRange 56).countP (notifies s)
    lowest := (List.finRange 56).find? (notifies s) }

/-- nATTN is recomputed in Stage F and at the end of every executed command (R77). -/
def refreshAttn (s : State) : State := s.setAttn (computeAttn s)

/-- nCRIT is asserted while an ack request is pending or the state is LOCKDOWN (R114). -/
def critNow (s : State) : Bool := s.ack.req.isSome || s.sup.state == .lockdown

/-- nCRIT is recomputed at the end of every stage and of every executed command (R114). -/
def refreshCrit (s : State) : State := s.setCrit (critNow s)

end Sys2Proof.Machine
end

