-- ==== Sys2Proof/Machine/InitSequence.lean ====
section
/-!
DEFINITION. Resets (R165, R166), INIT (R167, R168), the self-test (R169, R170), STANDBY and WAKING (R173, R174), and the
eighth and ninth categories of Stage D (R72).
-/

namespace Sys2Proof.Machine

/-! ### Resets -/

/-- The retained domain after a reset of this kind begins (R166). -/
def retainedAfter (kind : ResetKind) (s : State) : Retained :=
  match kind with
  | .por => porRetained
  | .pin =>
    { sticky := s.ret.sticky, resets := satInc s.ret.resets,
      latch := some { prior := s.sup.state, level := s.ack.level, first := s.sup.first, jseq := s.jrn.seq } }
  | .soft =>
    { sticky := s.ret.sticky, resets := satInc s.ret.resets,
      latch := some { prior := s.sup.state, level := s.ack.level, first := s.sup.first, jseq := s.jrn.seq } }

/-- All volatile state at its reset value, around what a reset keeps (R165). -/
def volatileReset (clk : Clock) (ret : Retained) (slots : Vector ArchSlot 4) (a b : Bank) (free : Nat)
    (pending : List Instr) : State :=
  { clk := clk
    ret := ret
    port := resetPort
    fl := Vector.replicate 16 resetFl
    hb := Vector.replicate 4 resetHb
    link := resetLink
    src := Vector.replicate 56 resetSrc
    sw := 0
    sup := resetSup
    ack := resetAck
    wd := resetWd
    jrn := resetJrn
    arch := resetArch slots
    out := resetOut
    prof := resetProf a b
    nv := resetNv
    st := resetSt
    sel := resetSel
    attn := resetAttn
    crit := false
    free := free
    pending := pending }

/-- A reset of this kind begins: the latch captures, the nonvolatile operation in progress is cut off, and all volatile state
takes its reset value (R165). -/
def beginReset (kind : ResetKind) (s : State) : State :=
  let t := nvInterrupt s
  volatileReset (resetClk (.inReset kind) kind) (retainedAfter kind s) t.arch.slots t.prof.bankA t.prof.bankB t.free
    t.pending

/-- A pin reset; while a power-on reset is in progress the device goes on performing that one (R165; log 29). -/
def beginPinReset (s : State) : State :=
  match s.clk.phase with
  | .inReset .por => s
  | _ => beginReset .pin s

/-- A reset ends: INIT begins with the start of the main oscillator, and the response slot holds NO_PRIOR with a status byte
sampled now (R12, R165, R167). -/
def endReset (s : State) : State :=
  match s.clk.phase with
  | .inReset _ =>
    (s.setClk { s.clk with phase := .starting }).setPort
      { s.port with slot := { noPriorSlot with status := globalStatus s } }
  | .starting => s
  | .running => s
  | .stopped => s

/-! ### The end of INIT -/

/-- The archive entry of INIT (R136). -/
def initEntry (s : State) : ArchEntry :=
  match s.clk.lastReset, s.ret.latch with
  | .pin, some l =>
    { cause := .pin, prior := some l.prior, level := l.level, first := l.first, jseq := some l.jseq,
      resets := s.ret.resets }
  | .soft, some l =>
    { cause := .soft, prior := some l.prior, level := l.level, first := l.first, jseq := some l.jseq,
      resets := s.ret.resets }
  | .pin, none => { cause := .pin, prior := none, level := 0, first := none, jseq := none, resets := s.ret.resets }
  | .soft, none => { cause := .soft, prior := none, level := 0, first := none, jseq := none, resets := s.ret.resets }
  | .por, _ => { cause := .por, prior := none, level := 0, first := none, jseq := none, resets := s.ret.resets }

/-- Every enabled heartbeat channel enters ARMING (R23, R39). -/
def armHeartbeats (s : State) : State :=
  s.setHb (vmap (fun i u => hbArmIfEnabled (vget s.prof.running.hb i) u) s.hb)

/-- A source is latched at the end of INIT, whatever its descriptor says (R168). -/
def latchBoot (i : SrcId) (detail : Byte) (s : State) : State :=
  let r := vget s.src i
  s.setSrc (vset s.src i
    { r with state := .active, cond := true, eff := some .critical, node := none, detail := detail })

/-- INIT is over (R167). -/
def finishInit (s : State) : State := s.setClk { s.clk with initStep := .done }

/-- The watchdog enters its first phase (R120). -/
def startWatchdog (s : State) : State := s.setWd (wdAfterInit s.prof.running.wd s.now s.wd)

/-- The source named as first source and cause: the lower-numbered of those latched (R168). -/
def bootCause (s : State) : SrcId := if s.st.lastFail.isSome then srcSelftest else srcProfile

/-- S49 is latched if the Default Profile was loaded (R168). -/
def latchProfile (s : State) : State := if s.prof.dflt then latchBoot srcProfile s.prof.s49Detail s else s

/-- S48 is latched if the self-test failed (R168). -/
def latchSelftest (s : State) : State :=
  match s.st.lastFail with
  | some n => latchBoot srcSelftest (BitVec.ofNat 8 n) s
  | none => s

/-- INIT ends in SAFE (R168). -/
def endInitSafe (s : State) : State :=
  let s1 := latchSelftest (latchProfile (beginEpisode (bootCause s) s))
  startWatchdog (enterSafe 0 (bootCause s) s1)

/-- INIT ends in LOCKDOWN, SAFE or NORMAL (R168). In each of them the enabled heartbeat channels enter ARMING (R23; log
12). -/
def endInit (s : State) : State :=
  let s0 := finishInit s
  if s0.ret.sticky then armHeartbeats (changeState .lockdown s0)
  else if s0.prof.dflt || s0.st.lastFail.isSome then armHeartbeats (endInitSafe s0)
  else armHeartbeats (startWatchdog (changeState .normal s0))

/-! ### The self-test -/

/-- The length of a self-test step (R169). -/
def stepTicks : Nat := 8

/-- A run starts at step ST1 (R167, R170). -/
def startSelftest (s : State) : State :=
  s.setSt { s.st with result := .running 1 (addTicks s.now stepTicks) }

/-- The test occurrence of step ST3 (R169). -/
def testOcc (c : Cls) : Occ :=
  { src := 0, cls := c, plan := 0, priority := 0, alarmTime := 1, detail := 0, node := none, injected := false,
    promoted := false }

/-- The shadow supervisor of step ST3, in shadow NORMAL (R169). -/
def shadow (s : State) : State :=
  (((s.setSup { resetSup with state := .normal }).setAck resetAck).setJrn resetJrn).setSt resetSt

/-- Step ST3 passes (R169). -/
def shadowPasses (s : State) : Bool :=
  let sh := shadow s
  let n := dispatch (testOcc .notice) sh
  let a := dispatch (testOcc .alarm) sh
  let c := dispatch (testOcc .critical) sh
  decide (n.sup = sh.sup ∧ n.ack = sh.ack) && decide (a.sup.state = .alert ∧ a.sup.alarms.length = 1) &&
    decide (c.sup.state = .safe ∧ c.sup.active = mergeActive 0 (planOf s 0) emptyPlan)

/-- The check of a self-test step passes (R169; logs 15, 16). -/
def selftestPasses (step : Nat) (compFault : BitVec 8) (refPeriods : Nat) (s : State) : Bool :=
  match step with
  | 1 => decide (s.prof.running = s.prof.coded)
  | 2 => profileSound s.prof.running
  | 3 => shadowPasses s
  | 4 => compFault == 0
  | 5 => decide (24 ≤ refPeriods ∧ refPeriods ≤ 27)
  | _ => true

/-- A run that ends in INIT ends INIT (R167). -/
def afterRun (s : State) : State := if s.sup.state = .init ∧ s.clk.initStep = .selftest then endInit s else s

/-- A due self-test step completes: FAIL ends the run, a passed fifth step ends it with PASS, any other passed step begins the
next one (R169). -/
def completeSelftest (step : Nat) (compFault : BitVec 8) (refPeriods : Nat) (s : State) : State :=
  if selftestPasses step compFault refPeriods s = false then
    afterRun (s.setSt { result := .fail step, lastFail := some step })
  else if 5 ≤ step then afterRun (s.setSt { result := .pass, lastFail := none })
  else s.setSt { s.st with result := .running (step + 1) (addTicks s.now stepTicks) }

/-- Category 8: the self-test step in progress completes when due (R72, R169). -/
def stepSelftest (compFault : BitVec 8) (refPeriods : Nat) (s : State) : State :=
  match s.st.result with
  | .running step due => if isDue s.now due then completeSelftest step compFault refPeriods s else s
  | .none => s
  | .pass => s
  | .fail _ => s
  | .aborted => s

/-! ### INIT -/

/-- The first batch of INIT begins the profile load (R167; log 22). -/
def stepInitBegin (s : State) : State :=
  if s.sup.state = .init ∧ s.clk.initStep = .first then
    nvRequest .load (s.setClk { s.clk with initStep := .load })
  else s

/-- The profile load completes: the running configuration, then the request of the INIT archive entry (R153, R167). R153 does not say
at which moment of the load's 30 ticks the banks are read and judged; they are judged here, at completion, as they then stand:
DESIGN CHOICE, unsafe (log 44). -/
def completeLoad (s : State) : State :=
  let s1 := nvFinish (s.setProf (loadBanks s.prof))
  if s1.sup.state = .init ∧ s1.clk.initStep = .load then
    nvRequest (.archWrite (initEntry s1)) (s1.setClk { s1.clk with initStep := .archive })
  else s1

/-- After the INIT archive write: the power-up self-test, or the end of INIT (R167). -/
def afterArchive (s : State) : State :=
  if !s.ret.sticky && s.prof.running.stAtInit then startSelftest (s.setClk { s.clk with initStep := .selftest })
  else endInit s

/-- An archive write completes; in INIT a snapshot of selection 0 is taken and INIT goes on (R137, R138, R167). -/
def completeArchWrite (e : ArchEntry) (s : State) : State :=
  let s1 := nvFinish (s.setArch (archStore e s.arch))
  if s1.sup.state = .init ∧ s1.clk.initStep = .archive then afterArchive (s1.setArch (archSnapshot 0 s1.arch)) else s1

/-- The archive erasure completes (R139). -/
def completeErase (s : State) : State := nvFinish (s.setArch (archErase s.arch))

/-- A commit completes: the target bank is VALID and current, status DONE, a SESSION record with code COMMIT (R160). -/
def completeCommit (bank : BankId) (gen : Word) (snap : Profile) (s : State) : State :=
  let p := setBank bank (writtenBank gen snap) s.prof
  nvFinish (writeRec (.session .commit) (s.setProf { p with curBank := some bank, gen := gen, commit := .done }))

/-- The operation in progress completes (R164). -/
def completeNv (s : State) : State :=
  match s.nv.cur with
  | none => s
  | some (.load, _) => completeLoad s
  | some (.archWrite e, _) => completeArchWrite e s
  | some (.erase, _) => completeErase s
  | some (.commit b g p, _) => completeCommit b g p s

/-- The fewest ticks an operation takes: 200 for a commit (R160). -/
def nvMinTicks (op : NvOp) : Nat := if isCommit op then 200 else 0

/-- The most ticks an operation takes: 30 for the load, 60 (6 ms) for archive operations, 400 for a commit (R137, R139, R153,
R160, R167). -/
def nvMaxTicks (op : NvOp) : Nat :=
  match op with
  | .load => 30
  | .archWrite _ => 60
  | .erase => 60
  | .commit _ _ _ => 400

/-- The operation begun at tick `start` completes in this batch: its work is done and its fewest ticks have passed, or its most
ticks have (log 6). -/
def nvReady (op : NvOp) (start now : Tick) (done : Bool) : Bool :=
  (done && decide (nvMinTicks op ≤ (now - start).toNat)) || decide (nvMaxTicks op ≤ (now - start).toNat)

/-- Category 9, last part: the completion of the nonvolatile operation in progress (R72). -/
def stepNv (done : Bool) (s : State) : State :=
  match s.nv.cur with
  | none => s
  | some (op, start) => if nvReady op start s.now done then completeNv s else s

/-- Category 9: the session unlock window (R72, R156). -/
def stepUnlock (s : State) : State :=
  match s.prof.session with
  | .unlocking due => if isDue s.now due then closeSession s else s
  | .closed => s
  | .opn _ _ => s

/-- Category 9: the session limit (R72, R157). -/
def stepSessionLimit (s : State) : State :=
  match s.prof.session with
  | .opn due _ => if isDue s.now due then timeoutSession s else s
  | .closed => s
  | .unlocking _ => s

/-! ### STANDBY and WAKING -/

/-- The device enters STANDBY, each block as its chapter states (R30, R39, R57, R122, R173). -/
def enterStandby (s : State) : State :=
  let s1 := changeState .standby s
  let s2 := s1.setFl (vmap (fun i u => flStandby (vget s1.prof.running.fl i) u) s1.fl)
  let s3 := s2.setHb (vmap (fun _ u => hbDisarm u) s2.hb)
  let s4 := s3.setWd (wdHold s3.wd)
  let s5 := s4.setLink (linkStandby s4.prof.running.link s4.link)
  s5.setClk { s5.clk with wakeReq := false }

/-- The length of WAKING (R174). -/
def wakingTicks : Nat := 20

/-- STANDBY is left for WAKING (R57, R174). -/
def beginWaking (s : State) : State :=
  let s1 := changeState .waking s
  (s1.setClk { s1.clk with wakeReq := false, wakingDue := some (addTicks s1.now wakingTicks) }).setLink
    (linkWaking s1.link)

/-- Category 8: a wake request is acted on (R174). -/
def stepWake (s : State) : State := if s.sup.state = .standby ∧ s.clk.wakeReq then beginWaking s else s

/-- WAKING ends in NORMAL: heartbeat channels arm, the watchdog starts (R23, R122, R174). -/
def endWaking (s : State) : State :=
  let s1 := changeState .normal (s.setClk { s.clk with wakingDue := none })
  armHeartbeats (s1.setWd (wdAfterWaking s1.prof.running.wd s1.now s1.wd))

/-- Category 8: the end of WAKING (R174). -/
def stepWakingEnd (s : State) : State :=
  match s.clk.wakingDue with
  | none => s
  | some due => if s.sup.state = .waking ∧ isDue s.now due then endWaking s else s

end Sys2Proof.Machine
end

