-- ==== Sys2Proof/Machine/Operands.lean ====
section
/-!
DEFINITION. The operand forms of the host port: the commands and where they are permitted (section 1.4, R15), argument ranges
(R16), access classes (R17, R176), the register window's views (R177, R180 to R182), writes (R178, R179) and the side effects
of reads (R177).
-/

namespace Sys2Proof.Machine

/-! ### Commands -/

/-- The 23 commands of the catalogue (section 1.4). -/
inductive Cmd where
  | nop
  | readReg
  | writeReg
  | clearSource
  | inject
  | raiseSw
  | lowerSw
  | purgeNode
  | ackSafe
  | releaseSafe
  | service
  | popJournal
  | peekJournal
  | openSession
  | closeApply
  | closeDiscard
  | commitProfile
  | resetCounts
  | clearArchive
  | runSelftest
  | enterStandby
  | wake
  | softReset
deriving DecidableEq, Repr

/-- The code of a command (section 1.4). -/
def cmdCode (c : Cmd) : Byte :=
  match c with
  | .nop => 0x00
  | .readReg => 0x01
  | .writeReg => 0x02
  | .clearSource => 0x10
  | .inject => 0x11
  | .raiseSw => 0x12
  | .lowerSw => 0x13
  | .purgeNode => 0x14
  | .ackSafe => 0x20
  | .releaseSafe => 0x21
  | .service => 0x28
  | .popJournal => 0x30
  | .peekJournal => 0x31
  | .openSession => 0x38
  | .closeApply => 0x39
  | .closeDiscard => 0x3A
  | .commitProfile => 0x3B
  | .resetCounts => 0x3C
  | .clearArchive => 0x3D
  | .runSelftest => 0x40
  | .enterStandby => 0x48
  | .wake => 0x49
  | .softReset => 0x4F

/-- The catalogue in the order of section 1.4. -/
def catalogue : List Cmd :=
  [.nop, .readReg, .writeReg, .clearSource, .inject, .raiseSw, .lowerSw, .purgeNode, .ackSafe, .releaseSafe, .service,
   .popJournal, .peekJournal, .openSession, .closeApply, .closeDiscard, .commitProfile, .resetCounts, .clearArchive,
   .runSelftest, .enterStandby, .wake, .softReset]

/-- The command of a code, none for a code that is not in the catalogue (R15). -/
def cmdOf (code : Byte) : Option Cmd := catalogue.find? (fun c => cmdCode c == code)

/-- NORMAL, ALERT and SAFE. -/
def inCalmOrSafe (x : SupState) : Bool := x == .normal || x == .alert || x == .safe

/-- The catalogue's state columns: the command passes step 6 of R6 in this supervisor state, `sess` saying that a session is
open (section 1.4, R15). -/
def permitted (c : Cmd) (x : SupState) (sess : Bool) : Bool :=
  match c with
  | .nop => true
  | .readReg => true
  | .writeReg => inCalmOrSafe x
  | .clearSource => inCalmOrSafe x || x == .lockdown
  | .inject => inCalmOrSafe x
  | .raiseSw => inCalmOrSafe x
  | .lowerSw => inCalmOrSafe x
  | .purgeNode => inCalmOrSafe x
  | .ackSafe => x == .safe
  | .releaseSafe => x == .safe
  | .service => inCalmOrSafe x
  | .popJournal => x != .init
  | .peekJournal => x != .init
  | .openSession => x == .normal || x == .safe
  | .closeApply => inCalmOrSafe x && sess
  | .closeDiscard => inCalmOrSafe x && sess
  | .commitProfile => inCalmOrSafe x && sess
  | .resetCounts => inCalmOrSafe x && sess
  | .clearArchive => inCalmOrSafe x && sess
  | .runSelftest => x == .normal && !sess
  | .enterStandby => x == .normal
  | .wake => x == .standby
  | .softReset => x == .normal && !sess

/-! ### Access classes -/

/-- The access classes (R176). -/
inductive Access where
  | ro
  | rc
  | rs
  | rw
  | cs
deriving DecidableEq, Repr

/-- The class of an address, none outside the map (R180, R181, R182). -/
def regAccess (addr : Byte) : Option Access :=
  let n := addr.toNat
  if n ≤ 0x05 then some .ro
  else if n ≤ 0x07 then some .rs
  else if n ≤ 0x0A then some .ro
  else if n = 0x0F ∨ n = 0x10 then some .rw
  else if n = 0x11 ∨ n = 0x12 then some .ro
  else if 0x14 ≤ n ∧ n ≤ 0x1B then some .ro
  else if n = 0x20 ∨ n = 0x21 then some .ro
  else if 0x24 ≤ n ∧ n ≤ 0x27 then some .rs
  else if n = 0x28 then some .ro
  else if 0x30 ≤ n ∧ n ≤ 0x33 then some .rc
  else if n = 0x34 ∨ n = 0x36 ∨ n = 0x39 then some .ro
  else if n = 0x35 ∨ n = 0x38 then some .rw
  else if n = 0x40 ∨ n = 0x41 then some .ro
  else if 0x48 ≤ n ∧ n ≤ 0x4E then some .ro
  else if n = 0x50 ∨ n = 0x51 ∨ n = 0x58 ∨ n = 0x59 then some .ro
  else if n = 0x5A then some .rw
  else if 0x5B ≤ n ∧ n ≤ 0x5D then some .ro
  else if n = 0x60 then some .ro
  else if n = 0x61 then some .rc
  else if n = 0x80 ∨ n = 0x84 ∨ n = 0x88 ∨ n = 0x8C then some .rw
  else if n = 0x81 ∨ n = 0x82 ∨ n = 0x85 ∨ n = 0x86 ∨ n = 0x87 ∨ n = 0x89 ∨ n = 0x8D ∨ n = 0x8E then some .cs
  else if n = 0x90 ∨ n = 0x91 ∨ n = 0x94 ∨ n = 0x95 ∨ n = 0x98 ∨ n = 0x99 ∨ n = 0x9A ∨ n = 0x9C ∨ n = 0x9E then some .cs
  else none

/-! ### Layouts of the configuration registers (R182) -/

/-- A number as a 16-bit register value. -/
def w16 (n : Nat) : Word := BitVec.ofNat 16 n

/-- The class codes: 1 NOTICE, 2 ALARM, 3 CRITICAL (R126, R133, R181, R182). -/
def clsCode (c : Cls) : BitVec 2 :=
  match c with
  | .notice => 1
  | .alarm => 2
  | .critical => 3

/-- The class of a code, NOTICE for the code 0 that no write accepts (R182). -/
def clsOf (x : BitVec 2) : Cls := if x = 3 then .critical else if x = 2 then .alarm else .notice

/-- The edge codes (R182). -/
def edgeCode (e : HbEdge) : BitVec 2 :=
  match e with
  | .rising => 0
  | .falling => 1
  | .both => 2

/-- The edge of a code; the code 3 is rejected by every write (R182). -/
def edgeOf (x : BitVec 2) : HbEdge := if x = 0 then .rising else if x = 1 then .falling else .both

/-- A flag as one bit. -/
def b1 (b : Bool) : BitVec 1 := bit b

/-- EDT_W0 (R182). -/
def viewEdtW0 (d : Desc) : Word :=
  b1 d.enable ++ clsCode d.cls ++ b1 (d.recovery == .host) ++ b1 d.notify ++ BitVec.ofNat 3 d.plan.val ++ d.priority ++
    d.promoteAt

/-- The descriptor with the fields of EDT_W0 written (R182). -/
def writeEdtW0 (x : Word) (d : Desc) : Desc :=
  { d with
    enable := x.getLsbD 15, cls := clsOf (x.extractLsb' 13 2), recovery := if x.getLsbD 12 then .host else .auto,
    notify := x.getLsbD 11, plan := nodeOf (x.extractLsb' 8 3), priority := x.extractLsb' 4 4,
    promoteAt := x.extractLsb' 0 4 }

/-- PLAN_W0 (R182). -/
def viewPlanW0 (p : Plan) : Word :=
  (0 : BitVec 7) ++ b1 p.autoRelease ++ b1 p.ack ++ b1 p.pwrCut ++ b1 p.hrst ++ b1 p.epFault ++ p.ssoMask

/-- The plan with the fields of PLAN_W0 written (R182). -/
def writePlanW0 (x : Word) (p : Plan) : Plan :=
  { p with
    ssoMask := x.extractLsb' 0 4, epFault := x.getLsbD 4, hrst := x.getLsbD 5, pwrCut := x.getLsbD 6, ack := x.getLsbD 7,
    autoRelease := x.getLsbD 8 }

/-- FL_CFG (R182). -/
def viewFlCfg (c : FlCfg) : Word := (0 : BitVec 9) ++ b1 c.wake ++ b1 c.activeHigh ++ b1 (c.mode == .pulse) ++ c.filt

/-- A fault line configuration from FL_CFG (R182). -/
def readFlCfg (x : Word) : FlCfg :=
  { activeHigh := x.getLsbD 5, mode := if x.getLsbD 4 then .pulse else .level, filt := x.extractLsb' 0 4,
    wake := x.getLsbD 6 }

/-- HB_CFG (R182). -/
def viewHbCfg (page : Bool) (c : HbCfg) : Word :=
  if page then c.min else b1 c.enable ++ (0 : BitVec 13) ++ edgeCode c.edge

/-- The channel configuration with a page of HB_CFG written (R182). -/
def writeHbCfg (page : Bool) (x : Word) (c : HbCfg) : HbCfg :=
  if page then { c with min := x } else { c with enable := x.getLsbD 15, edge := edgeOf (x.extractLsb' 0 2) }

/-- LINK_CFG (R182). -/
def viewLinkCfg (c : LinkCfg) : Word :=
  b1 c.enable ++ b1 c.wake ++ (0 : BitVec 3) ++ BitVec.ofNat 3 c.ownNode.val ++ c.nodeMask

/-- The link configuration with LINK_CFG written (R182). -/
def writeLinkCfg (x : Word) (c : LinkCfg) : LinkCfg :=
  { c with
    enable := x.getLsbD 15, wake := x.getLsbD 14, ownNode := nodeOf (x.extractLsb' 8 3), nodeMask := x.extractLsb' 0 8 }

/-- LINK_CFG2 (R182). -/
def viewLinkCfg2 (page : Bool) (c : LinkCfg) : Word :=
  if page then (0 : BitVec 12) ++ c.errLimit else c.beaconPeriod ++ c.timeout

/-- The link configuration with a page of LINK_CFG2 written (R182). -/
def writeLinkCfg2 (page : Bool) (x : Word) (c : LinkCfg) : LinkCfg :=
  if page then { c with errLimit := x.extractLsb' 0 4 }
  else { c with timeout := x.extractLsb' 0 8, beaconPeriod := x.extractLsb' 8 8 }

/-- WD_CFG (R182). -/
def viewWdCfg (c : WdCfg) : Word := b1 c.enable ++ (0 : BitVec 4) ++ c.limit ++ c.mask

/-- The watchdog configuration with WD_CFG written (R182). -/
def writeWdCfg (x : Word) (c : WdCfg) : WdCfg :=
  { c with enable := x.getLsbD 15, limit := x.extractLsb' 8 3, mask := x.extractLsb' 0 8 }

/-- WD_CFG2 (R182). -/
def viewWdCfg2 (page : Bool) (c : WdCfg) : Word := if page then (0 : BitVec 8) ++ c.initial else c.closed ++ c.opn

/-- The watchdog configuration with a page of WD_CFG2 written (R182). -/
def writeWdCfg2 (page : Bool) (x : Word) (c : WdCfg) : WdCfg :=
  if page then { c with initial := x.extractLsb' 0 8 }
  else { c with opn := x.extractLsb' 0 8, closed := x.extractLsb' 8 8 }

/-- EP_CFG (R182). -/
def viewEpCfg (page : Bool) (c : EpCfg) : Word :=
  if page then (0 : BitVec 8) ++ c.min else b1 (c.proto == .antiphase) ++ (0 : BitVec 7) ++ c.half

/-- The error pair configuration with a page of EP_CFG written (R182). -/
def writeEpCfg (page : Bool) (x : Word) (c : EpCfg) : EpCfg :=
  if page then { c with min := x.extractLsb' 0 8 }
  else { c with half := x.extractLsb' 0 8, proto := if x.getLsbD 15 then .antiphase else .static }

/-- SUP_CFG (R182). -/
def viewSupCfg (c : SupCfg) : Word := (0 : BitVec 6) ++ c.escCeiling ++ c.ackLimit

/-- OSV_CFG (R182). -/
def viewOsvCfg (c : OsvCfg) : Word := (0 : BitVec 4) ++ c.filter ++ c.mask

/-- JRN_CFG (R182). -/
def viewJrnCfg (c : JrnCfg) : Word := b1 (c.policy == .keepNewest) ++ (0 : BitVec 9) ++ c.attnLevel

/-- A journal configuration from JRN_CFG (R182). -/
def readJrnCfg (x : Word) : JrnCfg :=
  { policy := if x.getLsbD 15 then .keepNewest else .keepOldest, attnLevel := x.extractLsb' 0 6 }

/-- PROF_CFG (R182). -/
def viewProfCfg (p : Profile) : Word := b1 p.profLock ++ (0 : BitVec 14) ++ b1 p.stAtInit

/-- The profile that the configuration registers show: the staging copy while a session is open, else the running
configuration (R155). -/
def csProfile (s : State) : Profile :=
  match s.prof.session with
  | .opn _ p => p
  | .closed => s.prof.running
  | .unlocking _ => s.prof.running

/-- The value of a configuration register, the indexed windows resolved by their selectors and the paged ones by PAGE_SEL
(R155, R177, R182). -/
def viewCs (addr : Byte) (q : Selectors) (p : Profile) : Word :=
  match addr.toNat with
  | 0x81 => viewEdtW0 (vget p.desc q.edtIndex)
  | 0x82 => (0 : BitVec 8) ++ (vget p.desc q.edtIndex).alarmTime
  | 0x85 => viewPlanW0 (vget p.plans q.planIndex)
  | 0x86 => (vget p.plans q.planIndex).hrstDelay ++ (vget p.plans q.planIndex).hrstPulse
  | 0x87 => (vget p.plans q.planIndex).pwrDelay ++ (vget p.plans q.planIndex).dwell
  | 0x89 => viewFlCfg (vget p.fl q.flSel)
  | 0x8D => viewHbCfg q.page (vget p.hb q.hbSel)
  | 0x8E => (vget p.hb q.hbSel).max
  | 0x90 => viewLinkCfg p.link
  | 0x91 => viewLinkCfg2 q.page p.link
  | 0x94 => viewWdCfg p.wd
  | 0x95 => viewWdCfg2 q.page p.wd
  | 0x98 => viewEpCfg q.page p.ep
  | 0x99 => viewSupCfg p.sup
  | 0x9A => viewOsvCfg p.osv
  | 0x9C => viewJrnCfg p.jrn
  | 0x9E => viewProfCfg p
  | _ => 0

/-- A profile with a configuration register written (R155, R178, R179, R182). -/
def writeCs (addr : Byte) (q : Selectors) (x : Word) (p : Profile) : Profile :=
  match addr.toNat with
  | 0x81 => { p with desc := vset p.desc q.edtIndex (writeEdtW0 x (vget p.desc q.edtIndex)) }
  | 0x82 => { p with desc := vset p.desc q.edtIndex ({ (vget p.desc q.edtIndex) with alarmTime := x.extractLsb' 0 8 }) }
  | 0x85 => { p with plans := vset p.plans q.planIndex (writePlanW0 x (vget p.plans q.planIndex)) }
  | 0x86 =>
    { p with plans := vset p.plans q.planIndex
                 ({ (vget p.plans q.planIndex) with hrstPulse := x.extractLsb' 0 8, hrstDelay := x.extractLsb' 8 8 }) }
  | 0x87 =>
    { p with plans := vset p.plans q.planIndex
                 ({ (vget p.plans q.planIndex) with dwell := x.extractLsb' 0 8, pwrDelay := x.extractLsb' 8 8 }) }
  | 0x89 => { p with fl := vset p.fl q.flSel (readFlCfg x) }
  | 0x8D => { p with hb := vset p.hb q.hbSel (writeHbCfg q.page x (vget p.hb q.hbSel)) }
  | 0x8E => { p with hb := vset p.hb q.hbSel ({ (vget p.hb q.hbSel) with max := x }) }
  | 0x90 => { p with link := writeLinkCfg x p.link }
  | 0x91 => { p with link := writeLinkCfg2 q.page x p.link }
  | 0x94 => { p with wd := writeWdCfg x p.wd }
  | 0x95 => { p with wd := writeWdCfg2 q.page x p.wd }
  | 0x98 => { p with ep := writeEpCfg q.page x p.ep }
  | 0x99 => { p with sup := { ackLimit := x.extractLsb' 0 8, escCeiling := x.extractLsb' 8 2 } }
  | 0x9A => { p with osv := { mask := x.extractLsb' 0 8, filter := x.extractLsb' 8 4 } }
  | 0x9C => { p with jrn := readJrnCfg x }
  | 0x9E => { p with stAtInit := x.getLsbD 0, profLock := x.getLsbD 15 }
  | _ => p

/-! ### Argument ranges (R16, R178) -/

/-- The low byte of a register value. -/
def lowByte (x : Word) : Byte := x.extractLsb' 0 8

/-- The high byte of a register value. -/
def highByte (x : Word) : Byte := x.extractLsb' 8 8

/-- The bits of `mask`, which the layout does not assign, are all 0. -/
def clearBits (x mask : Word) : Bool := x &&& mask == 0

/-- The value check of a WRITE_REG to an RW or CS register: every field in its range and every unassigned bit 0, page by page
for a paged register; any other address passes (R16, R178, R179, R182). -/
def writeValueOk (addr : Byte) (page : Bool) (x : Word) : Bool :=
  match addr.toNat with
  | 0x0F => decide (x.toNat ≤ 1)
  | 0x10 => decide (x.toNat ≤ 55)
  | 0x35 => decide (x.toNat ≤ 7)
  | 0x38 => decide (x.toNat ≤ 15)
  | 0x5A => decide (x.toNat ≤ 3)
  | 0x80 => decide (x.toNat ≤ 55)
  | 0x81 => x.extractLsb' 13 2 != 0
  | 0x82 => clearBits x 0xFF00
  | 0x84 => decide (x.toNat ≤ 7)
  | 0x85 => clearBits x 0xFE00
  | 0x86 => lowByte x != 0
  | 0x87 => lowByte x != 0
  | 0x88 => decide (x.toNat ≤ 15)
  | 0x89 => clearBits x 0xFF80
  | 0x8C => decide (x.toNat ≤ 3)
  | 0x8D => if page then x != 0 else clearBits x 0x7FFC && x.extractLsb' 0 2 != 3
  | 0x8E => decide (2 ≤ x.toNat)
  | 0x90 => clearBits x 0x3800
  | 0x91 => if page then clearBits x 0xFFF0 && x != 0 else lowByte x != 0 && highByte x != 0
  | 0x94 => clearBits x 0x7800 && x.extractLsb' 8 3 != 0
  | 0x95 => if page then clearBits x 0xFF00 && lowByte x != 0 else lowByte x != 0 && highByte x != 0
  | 0x98 => if page then clearBits x 0xFF00 else clearBits x 0x7F00 && lowByte x != 0
  | 0x99 => clearBits x 0xFC00 && lowByte x != 0 && x.extractLsb' 8 2 != 0
  | 0x9A => clearBits x 0xF000 && x.extractLsb' 8 4 != 0
  | 0x9C => clearBits x 0x7FC0 && decide ((x.extractLsb' 0 6).toNat ≤ 32)
  | 0x9E => clearBits x 0x7FFE
  | _ => true

/-- The register address of READ_REG and WRITE_REG: byte 2 (R4). -/
def argAddr (arg : BitVec 24) : Byte := arg.extractLsb' 16 8

/-- The data of WRITE_REG: bytes 3 and 4 (R4). -/
def argData (arg : BitVec 24) : Word := arg.extractLsb' 0 16

/-- The value in byte 4 (R16). -/
def argLow (arg : BitVec 24) : Byte := arg.extractLsb' 0 8

/-- Step 7 of R6: the argument is in the range that R16 gives the command. -/
def argInRange (c : Cmd) (page : Bool) (arg : BitVec 24) : Bool :=
  match c with
  | .nop => arg == 0
  | .readReg => argData arg == 0
  | .writeReg => writeValueOk (argAddr arg) page (argData arg)
  | .clearSource => decide (arg.toNat ≤ 55)
  | .inject => decide (arg.toNat ≤ 55)
  | .raiseSw => decide (arg.toNat ≤ 3)
  | .lowerSw => decide (arg.toNat ≤ 3)
  | .purgeNode => decide (arg.toNat ≤ 7)
  | .ackSafe => decide (arg.toNat ≤ 255)
  | .releaseSafe => arg == 0
  | .service => decide (arg.toNat ≤ 255)
  | .popJournal => arg == 0
  | .peekJournal => arg == 0
  | .openSession => decide (arg.toNat ≤ 255)
  | .closeApply => arg == 0
  | .closeDiscard => arg == 0
  | .commitProfile => arg == 0
  | .resetCounts => arg == 0
  | .clearArchive => arg == 0
  | .runSelftest => arg == 0
  | .enterStandby => arg == 0
  | .wake => arg == 0
  | .softReset => arg == 0x00005A

/-- Step 8 of R6: the register access is allowed; other commands have none (R17, R176). -/
def accessAllowed (c : Cmd) (sess : Bool) (arg : BitVec 24) : Bool :=
  match c with
  | .readReg => (regAccess (argAddr arg)).isSome
  | .writeReg =>
    match regAccess (argAddr arg) with
    | some .rw => true
    | some .cs => sess
    | some .ro => false
    | some .rc => false
    | some .rs => false
    | none => false
  | _ => true

/-! ### The status registers (R180, R181) -/

/-- A source number or its no-source encoding 63, in six bits (R180). -/
def srcOr63 (x : Option SrcId) : BitVec 6 :=
  match x with
  | some i => BitVec.ofNat 6 i.val
  | none => 63

/-- SUP_STATE (R180). -/
def viewSupState (s : State) : Word :=
  (0 : BitVec 7) ++ b1 (selftestRunning s) ++ b1 (s.sup.state == .standby) ++ b1 (sessionOpen s) ++
    b1 s.ack.req.isSome ++ s.ack.level ++ stateCode s.sup.state

/-- SUP_CAUSE (R95, R180). -/
def viewSupCause (s : State) : Word :=
  srcOr63 s.sup.cause ++ (0 : BitVec 1) ++ match s.ack.req with
    | some r => (1 : BitVec 1) ++ r.token
    | none => (0 : BitVec 1) ++ (0 : BitVec 8)

/-- ACTIVE_PLAN (R91, R180). -/
def viewActivePlan (s : State) : Word :=
  s.sup.active.plans ++ b1 s.sup.active.autoRelease ++ b1 s.sup.active.pwrCut ++ b1 (!hostResetIdle s) ++
    b1 s.sup.active.epFault ++ s.sup.active.ssoMask

/-- ATTN_SUM (R77, R180). -/
def viewAttnSum (s : State) : Word := BitVec.ofNat 8 s.attn.count ++ (0 : BitVec 2) ++ srcOr63 s.attn.lowest

/-- DWELL_LEFT (R92). -/
def viewDwellLeft (s : State) : Word :=
  match s.sup.dwell with
  | some d => w16 (msLeft s.now d)
  | none => 0

/-- ACK_LEFT: the remaining deadline, the full ACK_LIMIT while WAITING, 0 without a request (R99). -/
def viewAckLeft (s : State) : Word :=
  match s.ack.req with
  | none => 0
  | some r =>
    match r.deadline with
    | some d => w16 (msLeft s.now d)
    | none => w16 (ticksToMs (tenMsTicks s.prof.running.sup.ackLimit))

/-- ALARM_STAT (R85, R87, R180). -/
def viewAlarmStat (s : State) : Word :=
  if s.sel.page then (0 : BitVec 8) ++ s.sup.fullCount
  else (0 : BitVec 6) ++ srcOr63 (s.sup.alarms.head?.map (fun x => x.src)) ++ BitVec.ofNat 4 s.sup.alarms.length

/-- SRC_VIEW of record `i` (R60, R181). -/
def viewSrc (s : State) (i : SrcId) : Word :=
  let r := vget s.src i
  (0 : BitVec 9) ++ (match r.eff with
    | none => (0 : BitVec 2)
    | some c => clsCode c) ++ b1 (vget s.prof.running.desc i).enable ++ b1 r.inj ++ b1 r.cond ++
    (match r.state with
    | .quiet => (0 : BitVec 2)
    | .active => 1
    | .residual => 2)

/-- SRC_COUNT of record `i` (R60, R181). -/
def viewSrcCount (page : Bool) (r : SrcRec) : Word :=
  if page then (0 : BitVec 8) ++ r.detail
  else (0 : BitVec 3) ++ b1 r.node.isSome ++
    (match r.node with
    | some n => BitVec.ofNat 3 n.val
    | none => (0 : BitVec 3)) ++ b1 r.promoted ++ r.count

/-- Register `r` of a group of four that shows one bit per source, sixteen per register (R181). -/
def viewSrcBits (s : State) (f : SrcRec → Bool) (r : Nat) : Word :=
  bitsOf (fun b : Fin 16 => if h : 16 * r + b.val < 56 then f (vget s.src ⟨16 * r + b.val, h⟩) else false)

/-- One channel's four bits of HB_STATE (R38, R181). -/
def viewHb (u : HbUnit) : BitVec 4 :=
  (match u.viol with
    | .none => (0 : BitVec 2)
    | .early => 1
    | .late => 2) ++
  (match u.state with
    | .disarmed => (0 : BitVec 2)
    | .arming => 1
    | .running => 2
    | .frozen => 3)

/-- HB_STATE (R38, R181). -/
def viewHbState (s : State) : Word :=
  viewHb (vget s.hb 3) ++ viewHb (vget s.hb 2) ++ viewHb (vget s.hb 1) ++ viewHb (vget s.hb 0)

/-- LINK_STAT (R44, R181). -/
def viewLinkStat (l : Link) : Word :=
  (0 : BitVec 7) ++ l.leaky ++ b1 l.overrun ++ BitVec.ofNat 3 l.inbox.length

/-- One node's two bits of NODE_STATE (R47). -/
def viewNState (e : NodeEntry) : BitVec 2 :=
  match e.nstate with
  | .unknown => 0
  | .alive => 1
  | .silent => 2

/-- NODE_STATE (R47, R181). -/
def viewNodeState (l : Link) : Word :=
  viewNState (vget l.nodes 7) ++ viewNState (vget l.nodes 6) ++ viewNState (vget l.nodes 5) ++
    viewNState (vget l.nodes 4) ++ viewNState (vget l.nodes 3) ++ viewNState (vget l.nodes 2) ++
    viewNState (vget l.nodes 1) ++ viewNState (vget l.nodes 0)

/-- NODE_VIEW (R47, R181). DESIGN CHOICE: bits 14..12 are 0 while LAST_SEQ is absent (log 37). -/
def viewNode (e : NodeEntry) : Word :=
  b1 e.lastSeq.isSome ++ e.lastSeq.getD 0 ++ BitVec.ofNat 12 (ticksToMs e.silence)

/-- WD_STATE (R115, R181). -/
def viewWdState (w : Watchdog) : Word :=
  (0 : BitVec 6) ++ wdViolCode w.last ++ (0 : BitVec 1) ++ w.viol ++ (0 : BitVec 1) ++ wdPhaseCode w.phase

/-- JRN_STAT (R125, R130, R181). -/
def viewJrnStat (page : Bool) (j : Journal) : Word :=
  if page then j.lost ++ j.displaced
  else (0 : BitVec 2) ++ BitVec.ofNat 6 (pinnedCount j.recs) ++ (0 : BitVec 2) ++ BitVec.ofNat 6 j.recs.length

/-- KIND (R133). -/
def recKind (b : RecBody) : BitVec 3 :=
  match b with
  | .raise _ _ _ _ _ _ _ => 0
  | .clear _ => 1
  | .expiry _ => 2
  | .state _ _ => 3
  | .escalate _ => 4
  | .ack => 5
  | .session _ => 6
  | .lost _ => 7

/-- The SESSION codes (R126). -/
def sessCode (c : SessCode) : Byte :=
  match c with
  | .opened => 1
  | .apply => 2
  | .discard => 3
  | .timeout => 4
  | .abort => 5
  | .commit => 6

/-- JRN_BUF4, absent fields in their encodings (R133). -/
def recWord4 (b : RecBody) : Word :=
  recKind b ++ match b with
    | .raise _ c inj prom exh _ d => clsCode c ++ b1 inj ++ b1 prom ++ b1 exh ++ d
    | .clear _ => (0 : BitVec 13)
    | .expiry _ => 0
    | .state _ _ => 0
    | .escalate l => (0 : BitVec 11) ++ l
    | .ack => 0
    | .session c => (0 : BitVec 5) ++ sessCode c
    | .lost n => (0 : BitVec 5) ++ n

/-- JRN_BUF5, absent fields in their encodings (R133). -/
def recWord5 (b : RecBody) : Word :=
  match b with
  | .raise i _ _ _ _ n _ =>
    BitVec.ofNat 6 i.val ++ b1 n.isSome ++ (match n with
      | some x => BitVec.ofNat 3 x.val
      | none => (0 : BitVec 3)) ++ (7 : BitVec 3) ++ (7 : BitVec 3)
  | .clear i => BitVec.ofNat 6 i.val ++ (0 : BitVec 4) ++ (7 : BitVec 3) ++ (7 : BitVec 3)
  | .expiry i => BitVec.ofNat 6 i.val ++ (0 : BitVec 4) ++ (7 : BitVec 3) ++ (7 : BitVec 3)
  | .state x y => (63 : BitVec 6) ++ (0 : BitVec 4) ++ stateCode x ++ stateCode y
  | .escalate _ => 0xFC3F
  | .ack => 0xFC3F
  | .session _ => 0xFC3F
  | .lost _ => 0xFC3F

/-- Word `k` of the read buffer; the blank buffer of R133 while it holds no record. -/
def viewJrnBuf (buf : Option Rec) (k : Nat) : Word :=
  match buf with
  | none => if k = 4 then 0xE000 else if k = 5 then 0xFC3F else 0
  | some r =>
    match k with
    | 0 => r.seq
    | 1 => r.tick.extractLsb' 16 16
    | 2 => r.tick.extractLsb' 0 16
    | 3 => r.episode
    | 4 => recWord4 r.body
    | _ => recWord5 r.body

/-- ST_RESULT (R169, R181). -/
def viewStResult (r : StResult) : Word :=
  match r with
  | .none => 0
  | .running _ _ => 1
  | .pass => 2
  | .fail n => (0 : BitVec 9) ++ BitVec.ofNat 3 n ++ (0 : BitVec 1) ++ (3 : BitVec 3)
  | .aborted => 4

/-- PROF_STAT (R151, R160, R181). -/
def viewProfStat (page : Bool) (p : ProfileStore) : Word :=
  if page then p.gen
  else (0 : BitVec 10) ++ (match p.commit with
      | .none => (0 : BitVec 2)
      | .busy => 1
      | .done => 2
      | .abandoned => 3) ++ b1 p.running.profLock ++ b1 p.dflt ++ (match p.curBank with
      | none => (0 : BitVec 2)
      | some .bankA => 1
      | some .bankB => 2)

/-- SESSION_STAT (R156, R157, R181). -/
def viewSessionStat (s : State) : Word :=
  match s.prof.session with
  | .closed => 0
  | .unlocking _ => 0x4000
  | .opn due _ => (4 : BitVec 3) ++ BitVec.ofNat 13 (msLeft s.now due)

/-- The codes of CAUSE (R181). -/
def causeCode (c : ArchCause) : BitVec 2 :=
  match c with
  | .por => 0
  | .pin => 1
  | .soft => 2
  | .lockdownEntry => 3

/-- A supervisor state code, 7 when absent (R181). -/
def stateOr7 (x : Option SupState) : BitVec 3 :=
  match x with
  | some y => stateCode y
  | none => 7

/-- ARCH_VIEW0 (R138, R181). -/
def viewArch0 (x : SlotState) : Word :=
  match x with
  | .empty => (0 : BitVec 1) ++ (63 : BitVec 6) ++ (0 : BitVec 2) ++ (7 : BitVec 3) ++ (0 : BitVec 2) ++ (0 : BitVec 2)
  | .invalid _ =>
    (0 : BitVec 1) ++ (63 : BitVec 6) ++ (0 : BitVec 2) ++ (7 : BitVec 3) ++ (0 : BitVec 2) ++ (2 : BitVec 2)
  | .valid _ e =>
    (0 : BitVec 1) ++ srcOr63 e.first ++ e.level ++ stateOr7 e.prior ++ causeCode e.cause ++ (1 : BitVec 2)

/-- ARCH_VIEW1 (R138, R181). -/
def viewArch1 (x : SlotState) : Word :=
  match x with
  | .empty => 0
  | .invalid _ => 0
  | .valid _ e => e.jseq.getD 0

/-- ARCH_VIEW2 (R138, R181). -/
def viewArch2 (x : SlotState) : Word :=
  match x with
  | .empty => 0
  | .invalid _ => 0
  | .valid _ e => e.resets

/-- HPORT_STAT (R19, R181). -/
def viewHportStat (p : HostPort) : Word :=
  (0 : BitVec 3) ++ (match p.lastRej with
    | some r => resCode r
    | none => (0 : BitVec 5)) ++ (0 : BitVec 4) ++ p.consec

/-- TICK_HI: the captured high half while a capture is held, else the live one (R171). -/
def viewTickHi (c : Clock) : Word :=
  match c.hiCapture with
  | some x => x
  | none => c.tick.extractLsb' 16 16

/-- The value of a register at a moment between two batches; 0 outside the map (R177, R180, R181, R182). -/
def regValue (s : State) (addr : Byte) : Word :=
  match addr.toNat with
  | 0x00 => 0x4281
  | 0x01 => viewSupState s
  | 0x02 => viewSupCause s
  | 0x03 => viewActivePlan s
  | 0x04 => viewAttnSum s
  | 0x05 => s.sup.episode
  | 0x06 => s.clk.tick.extractLsb' 0 16
  | 0x07 => viewTickHi s.clk
  | 0x08 => viewDwellLeft s
  | 0x09 => viewAckLeft s
  | 0x0A => viewAlarmStat s
  | 0x0F => w16 s.sel.page.toNat
  | 0x10 => w16 s.sel.srcIndex.val
  | 0x11 => viewSrc s s.sel.srcIndex
  | 0x12 => viewSrcCount s.sel.page (vget s.src s.sel.srcIndex)
  | 0x14 => viewSrcBits s isLatched 0
  | 0x15 => viewSrcBits s isLatched 1
  | 0x16 => viewSrcBits s isLatched 2
  | 0x17 => viewSrcBits s isLatched 3
  | 0x18 => viewSrcBits s effCond 0
  | 0x19 => viewSrcBits s effCond 1
  | 0x1A => viewSrcBits s effCond 2
  | 0x1B => viewSrcBits s effCond 3
  | 0x20 => bitsOf (fun n : Fin 16 => (vget s.fl n).level)
  | 0x21 => bitsOf (fun n : Fin 16 => flQual (vget s.fl n))
  | 0x24 => (vget s.hb 0).capt
  | 0x25 => (vget s.hb 1).capt
  | 0x26 => (vget s.hb 2).capt
  | 0x27 => (vget s.hb 3).capt
  | 0x28 => viewHbState s
  | 0x30 => viewLinkStat s.link
  | 0x31 => s.link.malformed ++ s.link.crc ++ s.link.truncation ++ s.link.framing
  | 0x32 => s.link.foreign
  | 0x33 => s.link.dup ++ s.link.gap
  | 0x34 => viewNodeState s.link
  | 0x35 => w16 s.sel.nodeSel.val
  | 0x36 => viewNode (vget s.link.nodes s.sel.nodeSel)
  | 0x38 => w16 s.sel.lcSel.val
  | 0x39 => (vget s.link.sets s.sel.lcSel).setWidth 16
  | 0x40 => viewWdState s.wd
  | 0x41 => (0 : BitVec 8) ++ s.wd.challenge
  | 0x48 => viewJrnStat s.sel.page s.jrn
  | 0x49 => viewJrnBuf s.jrn.buf 0
  | 0x4A => viewJrnBuf s.jrn.buf 1
  | 0x4B => viewJrnBuf s.jrn.buf 2
  | 0x4C => viewJrnBuf s.jrn.buf 3
  | 0x4D => viewJrnBuf s.jrn.buf 4
  | 0x4E => viewJrnBuf s.jrn.buf 5
  | 0x50 => (0 : BitVec 8) ++ bitsOf (fun i : Fin 8 => (vget s.out.comps i).qual)
  | 0x51 => viewStResult s.st.result
  | 0x58 => viewProfStat s.sel.page s.prof
  | 0x59 => viewSessionStat s
  | 0x5A => w16 s.sel.archSel.val
  | 0x5B => viewArch0 s.arch.view
  | 0x5C => viewArch1 s.arch.view
  | 0x5D => viewArch2 s.arch.view
  | 0x60 => viewHportStat s.port
  | 0x61 => s.port.errcnt
  | 0x80 => w16 s.sel.edtIndex.val
  | 0x84 => w16 s.sel.planIndex.val
  | 0x88 => w16 s.sel.flSel.val
  | 0x8C => w16 s.sel.hbSel.val
  | _ => viewCs addr s.sel (csProfile s)

/-! ### Side effects of reads and effects of writes -/

/-- Reading HBn_CAPT releases channel `n` if it is FROZEN (R37). -/
def releaseChannel (n : Fin 4) (s : State) : State := s.setHb (vset s.hb n (hbRelease (vget s.hb n)))

/-- The side effect of an executed READ_REG, none for most registers (R177). -/
def readEffect (addr : Byte) (s : State) : State :=
  match addr.toNat with
  | 0x06 => s.setClk { s.clk with hiCapture := some (s.clk.tick.extractLsb' 16 16) }
  | 0x07 => s.setClk { s.clk with hiCapture := none }
  | 0x24 => releaseChannel 0 s
  | 0x25 => releaseChannel 1 s
  | 0x26 => releaseChannel 2 s
  | 0x27 => releaseChannel 3 s
  | 0x30 => s.setLink { s.link with overrun := false }
  | 0x31 => s.setLink { s.link with framing := 0, truncation := 0, crc := 0, malformed := 0 }
  | 0x32 => s.setLink { s.link with foreign := 0 }
  | 0x33 => s.setLink { s.link with dup := 0, gap := 0 }
  | 0x61 => s.setPort { s.port with errcnt := 0 }
  | _ => s

/-- The staging copy with a configuration register written (R155). -/
def writeStaging (addr : Byte) (x : Word) (s : State) : State :=
  match s.prof.session with
  | .opn due p => s.setProf { s.prof with session := .opn due (writeCs addr s.sel x p) }
  | .closed => s
  | .unlocking _ => s

/-- ARCH_SEL is written and the selected slot's snapshot taken (R138). -/
def writeArchSel (x : Word) (s : State) : State :=
  (s.setSel { s.sel with archSel := Fin.ofNat 4 x.toNat }).setArch (archSnapshot (Fin.ofNat 4 x.toNat) s.arch)

/-- An executed WRITE_REG (R178): a selector or PAGE_SEL, ARCH_SEL with its snapshot, or a register of the staging copy. -/
def writeEffect (addr : Byte) (x : Word) (s : State) : State :=
  match addr.toNat with
  | 0x0F => s.setSel { s.sel with page := x.getLsbD 0 }
  | 0x10 => s.setSel { s.sel with srcIndex := Fin.ofNat 56 x.toNat }
  | 0x35 => s.setSel { s.sel with nodeSel := Fin.ofNat 8 x.toNat }
  | 0x38 => s.setSel { s.sel with lcSel := Fin.ofNat 16 x.toNat }
  | 0x5A => writeArchSel x s
  | 0x80 => s.setSel { s.sel with edtIndex := Fin.ofNat 56 x.toNat }
  | 0x84 => s.setSel { s.sel with planIndex := Fin.ofNat 8 x.toNat }
  | 0x88 => s.setSel { s.sel with flSel := Fin.ofNat 16 x.toNat }
  | 0x8C => s.setSel { s.sel with hbSel := Fin.ofNat 4 x.toNat }
  | _ => writeStaging addr x s

end Sys2Proof.Machine
end

