-- ==== Sys2Proof/Machine/Commands.lean ====
section
/-!
DEFINITION. The executing rule of each of the 23 commands of the catalogue (section 1.4), after the checks of R6: its result,
its result data and its effect on the state. What the host port does around it is in `HostPort`.
-/

namespace Sys2Proof.Machine

/-- What an executed command comes to: the state after it, its result code and result data (R13), and whether it has begun a
SOFT reset (R175). -/
structure CmdOut where
  st : State
  res : Res
  data : BitVec 24
  reset : Bool
deriving DecidableEq, Repr

/-- OK with result data (R13). -/
def okWith (data : BitVec 24) (s : State) : CmdOut := { st := s, res := .ok, data := data, reset := false }

/-- OK with result data 0x000000 (R13). -/
def okOut (s : State) : CmdOut := okWith 0 s

/-- REFUSED with its reason in byte 2; nothing changes (R13). -/
def refuse (r : Reason) (s : State) : CmdOut :=
  { st := s, res := .refused, data := argOf (reasonCode r) 0 0, reset := false }

/-- A result other than OK and REFUSED, with result data 0x000000 (R13). -/
def plainOut (r : Res) (s : State) : CmdOut := { st := s, res := r, data := 0, reset := false }

/-- The source number in byte 4 (R16). -/
def argSource (arg : BitVec 24) : SrcId := Fin.ofNat 56 (argLow arg).toNat

/-! ### Registers -/

/-- NOP (R21). -/
def doNop (s : State) : CmdOut := okOut s

/-- READ_REG: the address and the value before the read's side effect (R17, R177). -/
def doReadReg (arg : BitVec 24) (s : State) : CmdOut :=
  okWith (argAddr arg ++ regValue s (argAddr arg)) (readEffect (argAddr arg) s)

/-- WRITE_REG (R17, R178, R179). -/
def doWriteReg (arg : BitVec 24) (s : State) : CmdOut := okOut (writeEffect (argAddr arg) (argData arg) s)

/-! ### Sources and the link -/

/-- The codes of STATE in the result of CLEAR_SOURCE (R74). -/
def srcStateCode (x : SrcState) : Byte :=
  match x with
  | .quiet => 0
  | .active => 1
  | .residual => 2

/-- CLEAR_SOURCE (R74). -/
def doClearSource (arg : BitVec 24) (s : State) : CmdOut :=
  let i := argSource arg
  let r := vget s.src i
  let cleared := s.setSrc (vset s.src i { r with inj := false, state := .quiet })
  match r.state with
  | .quiet => okOut cleared
  | .active =>
    if r.cond then refuse .conditionPresent s
    else okWith (argOf 0 0 (srcStateCode .active)) (clearEffects i cleared)
  | .residual =>
    if r.cond then refuse .conditionPresent s
    else okWith (argOf 0 0 (srcStateCode .residual)) (clearEffects i cleared)

/-- INJECT (R75). -/
def doInject (arg : BitVec 24) (s : State) : CmdOut :=
  let i := argSource arg
  if (vget s.prof.running.desc i).enable then
    okOut (s.setSrc (vset s.src i { (vget s.src i) with inj := true }))
  else refuse .disabled s

/-- The software source index in byte 4, as a bit of `sw` (R16, R76). -/
def swBit (arg : BitVec 24) : BitVec 4 := BitVec.twoPow 4 ((argLow arg).toNat % 4)

/-- RAISE_SW (R76). -/
def doRaiseSw (arg : BitVec 24) (s : State) : CmdOut := okOut (s.setSw (s.sw ||| swBit arg))

/-- LOWER_SW (R76). -/
def doLowerSw (arg : BitVec 24) (s : State) : CmdOut := okOut (s.setSw (s.sw &&& ~~~(swBit arg)))

/-- The node number in byte 4 (R16). -/
def argNode (arg : BitVec 24) : Fin 8 := nodeOf (arg.extractLsb' 0 3)

/-- PURGE_NODE (R50). -/
def doPurgeNode (arg : BitVec 24) (s : State) : CmdOut :=
  let n := argNode arg
  if (vget s.link.nodes n).nstate = .silent then
    okWith ((0 : Byte) ++ purgeMask n s.link) (s.setLink (leaveAll n s.link))
  else refuse .nodeNotSilent s

/-! ### Acknowledgement, release and service -/

/-- ACK_SAFE (R103, R104). -/
def doAckSafe (arg : BitVec 24) (s : State) : CmdOut :=
  match acknowledge (argLow arg) s with
  | (.none, _) => refuse .noAckPending s
  | (.acked, t) => okOut t
  | (.bad, t) => plainOut .badToken t

/-- RELEASE_SAFE (R96, R97). -/
def doReleaseSafe (s : State) : CmdOut :=
  match releaseBlock s with
  | some r => refuse r s
  | none => okOut (release s)

/-- The result data of SERVICE: phase, WD_VIOL and outcome after the command (R117). -/
def serviceData (o : WdOutcome) (w : Watchdog) : BitVec 24 :=
  argOf ((wdPhaseCode w.phase).setWidth 8) (w.viol.setWidth 8) (wdOutcomeCode o)

/-- SERVICE (R117). -/
def doService (arg : BitVec 24) (s : State) : CmdOut :=
  match wdService s.prof.running.wd s.now (argLow arg) s.wd with
  | none => refuse .wdNotRunning s
  | some (o, w) => okWith (serviceData o w) (s.setWd w)

/-! ### The journal and the archive -/

/-- The result data of a pop or peek: the records held after it and the SEQ copied (R132). -/
def journalData (held : Nat) (r : Rec) : BitVec 24 := BitVec.ofNat 8 held ++ r.seq

/-- After a removal with LOST_COUNT not 0 a LOST marker is appended and LOST_COUNT returns to 0 (R131). -/
def lostMarker (s : State) : State :=
  if s.jrn.lost = 0 then s
  else
    let t := writeRec (.lost s.jrn.lost) s
    t.setJrn { t.jrn with lost := 0 }

/-- POP_JOURNAL (R131, R132). -/
def doPopJournal (s : State) : CmdOut :=
  match s.jrn.recs with
  | [] => plainOut .empty s
  | r :: rest =>
    let t := lostMarker (s.setJrn { s.jrn with recs := rest, buf := some r })
    okWith (journalData t.jrn.recs.length r) t

/-- PEEK_JOURNAL (R132). -/
def doPeekJournal (s : State) : CmdOut :=
  match s.jrn.recs with
  | [] => plainOut .empty s
  | r :: _ => okWith (journalData s.jrn.recs.length r) (s.setJrn { s.jrn with buf := some r })

/-- CLEAR_ARCHIVE (R139). -/
def doClearArchive (s : State) : CmdOut := if erasePending s then okOut s else okOut (nvRequest .erase s)

/-! ### Sessions -/

/-- The session limit: 50000 ticks (R157). -/
def sessionLimit : Nat := 50000

/-- The unlock window: 100 ticks (R156). -/
def unlockWindow : Nat := 100

/-- Opening, by the second unlock step (R157, R170). -/
def openNow (s : State) : State :=
  abortSelftest (writeRec (.session .opened)
    (s.setProf { s.prof with session := .opn (addTicks s.now sessionLimit) s.prof.running }))

/-- OPEN_SESSION: the first matching row of R156. -/
def doOpenSession (arg : BitVec 24) (s : State) : CmdOut :=
  if s.prof.running.profLock then plainOut .locked s
  else
    match s.prof.session with
    | .opn _ _ => refuse .unlockSequence s
    | .closed =>
      if argLow arg = 0xC3 then
        okWith 1 (s.setProf { s.prof with session := .unlocking (addTicks s.now unlockWindow) })
      else refuse .unlockSequence s
    | .unlocking _ =>
      if argLow arg = 0x3C then okWith 2 (openNow s) else refuse .unlockSequence (closeSession s)

/-- A commit is requested and not yet completed or abandoned: COMMIT_BUSY (R158). -/
def commitBusy (s : State) : Bool := s.prof.commit == .busy

/-- The first reason that refuses CLOSE_APPLY and COMMIT_PROFILE over a staging copy (R158, R160). -/
def applyBlock (staging : Profile) (s : State) : Option Reason :=
  if commitBusy s then some .commitBusy
  else if badHbWindow staging then some .badHbWindow
  else if badAlarmTime staging then some .badAlarmTime
  else none

/-- The host-reset action is PULSING (R123). -/
def pulsingNow (s : State) : Bool :=
  match s.sup.hostReset with
  | .pulsing _ => true
  | .idle => false
  | .delaying _ _ => false

/-- Every block but the Alarm List adjusts its live state to the change from `old` to `new` (R31, R39, R54, R55, R65, R123,
R144; table of R158). -/
def adjustBlocks (old new : Profile) (s : State) : State :=
  let s1 := s.setFl (vmap (fun i u => flApply (vget old.fl i) (vget new.fl i) u) s.fl)
  let s2 := s1.setHb (vmap (fun i u => hbApply (vget old.hb i) (vget new.hb i) u) s1.hb)
  let s3 := s2.setLink (linkApply old.link new.link s2.link)
  let s4 := s3.setSrc (recomputePromoted new s3.src)
  let s5 := s4.setWd (wdApply old.wd new.wd (pulsingNow s4) s4.now s4.wd)
  s5.setOut { s5.out with pair := pairApply new.ep s5.out.pair }

/-- An APPLY: the staging copy becomes running, the default flag is cleared, the SESSION record is written, the session
closes, and every block adjusts; the entries of disabled sources leave the Alarm List (R86, R158). -/
def applyProfile (p : Profile) (s : State) : State :=
  let s1 := s.setProf { s.prof with running := p, coded := p, dflt := false }
  let s2 := adjustBlocks s.prof.running p (closeSession (writeRec (.session .apply) s1))
  dropAlarms (fun x => !(vget p.desc x.src).enable) s2

/-- CLOSE_APPLY (R158). -/
def doCloseApply (s : State) : CmdOut :=
  match s.prof.session with
  | .opn _ p =>
    match applyBlock p s with
    | some r => refuse r s
    | none => okOut (applyProfile p s)
  | .closed => okOut s
  | .unlocking _ => okOut s

/-- CLOSE_DISCARD (R159). -/
def doCloseDiscard (s : State) : CmdOut :=
  if commitBusy s then refuse .commitBusy s else okOut (closeSession (writeRec (.session .discard) s))

/-- The code of a bank in the result of COMMIT_PROFILE (R160). -/
def bankIdCode (b : BankId) : Byte :=
  match b with
  | .bankA => 0
  | .bankB => 1

/-- A commit of this snapshot is requested (R160). -/
def requestCommit (p : Profile) (s : State) : State :=
  nvRequest (.commit (targetBank s.prof.curBank) (s.prof.gen + 1) p) (s.setProf { s.prof with commit := .busy })

/-- COMMIT_PROFILE (R160). -/
def doCommit (s : State) : CmdOut :=
  match s.prof.session with
  | .opn _ p =>
    match applyBlock p s with
    | some r => refuse r s
    | none => okWith (bankIdCode (targetBank s.prof.curBank) ++ (s.prof.gen + 1)) (requestCommit p s)
  | .closed => okOut s
  | .unlocking _ => okOut s

/-- RESET_COUNTS (R163). -/
def doResetCounts (s : State) : CmdOut :=
  okOut (s.setSrc (recomputePromoted s.prof.running (vmap (fun _ r => { r with count := 0 }) s.src)))

/-! ### Self-test, STANDBY and SOFT_RESET -/

/-- RUN_SELFTEST (R170). -/
def doRunSelftest (s : State) : CmdOut := if selftestRunning s then refuse .selftestBusy s else okOut (startSelftest s)

/-- ENTER_STANDBY (R173). -/
def doEnterStandby (s : State) : CmdOut :=
  if selftestRunning s then refuse .selftestBusy s
  else if sessionOpen s then refuse .sessionOpen s
  else if severeLatched s then refuse .sourcesLatched s
  else okOut (enterStandby s)

/-- WAKE (R174). -/
def doWake (s : State) : CmdOut := okOut (beginWaking s)

/-- SOFT_RESET (R175). -/
def doSoftReset (s : State) : CmdOut :=
  if selftestRunning s then refuse .selftestBusy s
  else { st := beginReset .soft s, res := .ok, data := 0, reset := true }

/-- The executing rule of each command (section 1.4). -/
def runCommand (c : Cmd) (arg : BitVec 24) (s : State) : CmdOut :=
  match c with
  | .nop => doNop s
  | .readReg => doReadReg arg s
  | .writeReg => doWriteReg arg s
  | .clearSource => doClearSource arg s
  | .inject => doInject arg s
  | .raiseSw => doRaiseSw arg s
  | .lowerSw => doLowerSw arg s
  | .purgeNode => doPurgeNode arg s
  | .ackSafe => doAckSafe arg s
  | .releaseSafe => doReleaseSafe s
  | .service => doService arg s
  | .popJournal => doPopJournal s
  | .peekJournal => doPeekJournal s
  | .openSession => doOpenSession arg s
  | .closeApply => doCloseApply s
  | .closeDiscard => doCloseDiscard s
  | .commitProfile => doCommit s
  | .resetCounts => doResetCounts s
  | .clearArchive => doClearArchive s
  | .runSelftest => doRunSelftest s
  | .enterStandby => doEnterStandby s
  | .wake => doWake s
  | .softReset => doSoftReset s

end Sys2Proof.Machine
end

