-- ==== Sys2Proof/Machine/HostPort.lean ====
section
/-!
DEFINITION. The host port (chapter 1): the eight checks of R6, the tag sequence (R9 to R11), the response slot and what SDO
shows (R12, R13), and what surrounds the execution of a command (R59, R77, R114, R156).
-/

namespace Sys2Proof.Machine

/-! ### The response slot -/

/-- The six bytes of a response (R13). -/
def slotBytes (x : Slot) : List Byte :=
  let b1 : Byte := x.tag ++ resCode x.res
  let d2 : Byte := x.data.extractLsb' 16 8
  let d1 : Byte := x.data.extractLsb' 8 8
  let d0 : Byte := x.data.extractLsb' 0 8
  [x.status, b1, d2, d1, d0, crc8 [x.status, b1, d2, d1, d0]]

/-- The 48 bits of a response in the order they are shifted out (R3, R13). -/
def slotBits (x : Slot) : List Bool := (slotBytes x).flatMap bitsOfByte

/-- What SDO shows during a frame of `n` bits: the slot and then zeros, or zeros throughout for a frame begun before the slot
was loaded (R7, R12). -/
def sdoBits (start : FrameStart) (n : Nat) (x : Slot) : List Bool :=
  match start with
  | .onTime => (slotBits x).take n ++ List.replicate (n - 48) false
  | .early => List.replicate n false
  | .beforeResetEnd => List.replicate n false

/-- The frame's SDO is shown (log 20). -/
def showSdo (bits : List Bool) (s : State) : State := s.setPort { s.port with sdo := bits }

/-- The slot is loaded with a result and a status byte sampled now (R12, R14). -/
def answer (tag : BitVec 3) (res : Res) (data : BitVec 24) (s : State) : State :=
  s.setPort { s.port with slot := { status := globalStatus s, tag := tag, res := res, data := data } }

/-! ### Rejections and retransmissions -/

/-- HP_CONSEC and HPORT_ERRCNT count a rejection (R7, R18, R19). -/
def countError (s : State) : State :=
  s.setPort { s.port with consec := satInc s.port.consec, errcnt := satInc s.port.errcnt }

/-- The last rejection is recorded (R19). -/
def noteRej (r : Res) (s : State) : State := s.setPort { s.port with lastRej := some r }

/-- Step 1 fails (R7). -/
def rejectLength (s : State) : State := answer 0 .rejLength 0 (noteRej .rejLength (countError s))

/-- Step 2 fails (R8). -/
def rejectCrc (f : RawFrame) (s : State) : State := answer (frameTag f) .rejCrc 0 (noteRej .rejCrc (countError s))

/-- Step 3 fails (R8). -/
def rejectFormat (f : RawFrame) (s : State) : State := answer (frameTag f) .rejFormat 0 (noteRej .rejFormat s)

/-- Step 4 fails: the tag is out of sequence (R11). -/
def rejectTag (f : RawFrame) (s : State) : State :=
  answer (frameTag f) .rejTag (s.port.lastTag.setWidth 24) (noteRej .rejTag (countError s))

/-- A retransmission: HP_CONSEC is 0 and the stored result is answered again (R10, R18). A SYNCHRONISED port always holds a
stored result (log 28). -/
def retransmit (s : State) : State :=
  let s1 := s.setPort { s.port with consec := 0 }
  match s1.port.stored with
  | some r => answer r.tag r.res r.data s1
  | none => s1

/-! ### Frames accepted as new -/

/-- A frame is accepted as new (R9, R18). -/
def acceptTag (tag : BitVec 3) (s : State) : State :=
  s.setPort { s.port with synced := true, lastTag := tag, consec := 0 }

/-- The frame's result becomes the stored result and is answered (R9, R12). -/
def storeResult (tag : BitVec 3) (res : Res) (data : BitVec 24) (s : State) : State :=
  answer tag res data (s.setPort { s.port with stored := some { tag := tag, res := res, data := data } })

/-- A frame accepted as new fails at one of the steps 5 to 8 (R15, R16, R17). -/
def rejectNew (tag : BitVec 3) (res : Res) (s : State) : State := storeResult tag res 0 (noteRej res s)

/-- The end of an executed command: a pending unlock step is cancelled unless it was OPEN_SESSION (R156), COND follows the
conditions the command has changed (R59), nATTN and nCRIT are recomputed (R77, R114). `before` is the state in which the
command began to execute. -/
def afterCommand (c : Cmd) (before s : State) : State :=
  let s1 := if c = .openSession then s else cancelUnlock s
  refreshCrit (refreshAttn (copyChanged before s1))

/-- A command is executed, and its result stored and answered; a SOFT reset that it has begun leaves its own response slot
(R12, R20). -/
def execute (tag : BitVec 3) (c : Cmd) (arg : BitVec 24) (s : State) : State :=
  let o := runCommand c arg s
  if o.reset then o.st else storeResult tag o.res o.data (afterCommand c s o.st)

/-- Steps 6 to 8 of R6 for a known command, then its execution. -/
def judgeCommand (tag : BitVec 3) (c : Cmd) (arg : BitVec 24) (s : State) : State :=
  if permitted c s.sup.state (sessionOpen s) = false then rejectNew tag .rejState s
  else if argInRange c s.sel.page arg = false then rejectNew tag .rejArg s
  else if accessAllowed c (sessionOpen s) arg = false then rejectNew tag .rejAccess s
  else execute tag c arg s

/-- A frame accepted as new: step 5 and the steps after it (R6, R9). -/
def processNew (f : RawFrame) (s : State) : State :=
  match cmdOf f.b0 with
  | none => rejectNew (frameTag f) .rejCommand (acceptTag (frameTag f) s)
  | some c => judgeCommand (frameTag f) c (frameArg f) (acceptTag (frameTag f) s)

/-- What the tag of a frame makes of it (table of R9). -/
inductive TagJudge where
  | new
  | again
  | wrong
deriving DecidableEq, Repr

/-- The table of R9. -/
def judgeTag (p : HostPort) (tag : BitVec 3) : TagJudge :=
  if p.synced = false then .new
  else if tag = p.lastTag + 1 then .new
  else if tag = p.lastTag then .again
  else .wrong

/-- A frame of 48 bits is processed: steps 2 to 8 of R6. -/
def processFrame (f : RawFrame) (s : State) : State :=
  if frameCrcOk f = false then rejectCrc f s
  else if frameLow5 f ≠ 0 then rejectFormat f s
  else
    match judgeTag s.port (frameTag f) with
    | .new => processNew f s
    | .again => retransmit s
    | .wrong => rejectTag f s

/-! ### Frames as they arrive -/

/-- What SDO shows during a frame of `n` bits, and then the processing of the frame, if frames are processed now: a device in
reset ignores it, and so does a device whose reset ended only after nCS had been asserted (R20; log 38); one whose oscillator
is stopped answers zeros (R171). Frames are processed from the end of the reset on, oscillator start included (R20; log
10). -/
def onPort (start : FrameStart) (n : Nat) (process : State → State) (s : State) : State :=
  if start = .beforeResetEnd then s
  else
    match s.clk.phase with
    | .inReset _ => s
    | .stopped => showSdo (List.replicate n false) s
    | .starting => process (showSdo (sdoBits start n s.port.slot) s)
    | .running => process (showSdo (sdoBits start n s.port.slot) s)

/-- A well-formed frame completes (R3, R6). -/
def hostFrame (start : FrameStart) (f : RawFrame) (s : State) : State := onPort start 48 (processFrame f) s

/-- nCS is deasserted after these bits: none is not a frame, 48 are a frame, any other count is a length error (R3, R7). -/
def hostBits (start : FrameStart) (bits : List Bool) (s : State) : State :=
  if bits.length = 0 then s
  else if bits.length = 48 then hostFrame start (frameOfBits bits) s
  else onPort start bits.length rejectLength s

/-- A command frame with a correct check code completes (R4, R5). -/
def commandFrame (h : FrameHead) (code : Byte) (arg : BitVec 24) (s : State) : State :=
  hostFrame h.start (requestFrame code h.tag arg) s

end Sys2Proof.Machine
end

