-- ==== Sys2Proof/Machine/CommandRows.lean ====
section
/-!
DEFINITION. The meanings of the command frames: each builds the frame of its command (R4, R5) and hands it to the port, which
judges it by R6 and executes it by the command's own rule (log 3).
-/

namespace Sys2Proof.Machine

/-- The frame of a command with its 24-bit argument completes (R4). -/
def cmdFrame (c : Cmd) (h : FrameHead) (arg : BitVec 24) (s : State) : State := commandFrame h (cmdCode c) arg s

/-- A READ_REG frame for an address (R4, R17). -/
def readFrame (h : FrameHead) (addr : Byte) (s : State) : State := cmdFrame .readReg h (argOf addr 0 0) s

/-- A WRITE_REG frame for an address with its data (R4, R17). -/
def writeFrame (h : FrameHead) (addr : Byte) (data : Word) (s : State) : State :=
  cmdFrame .writeReg h (addr ++ data) s

/-- WRITE_REG (R178, R179). -/
def execWriteReg (h : FrameHead) (addr : Byte) (data : Word) (s : State) : Host.Outcome State Fault Refusal :=
  .next (writeFrame h addr data s)

/-- The address of ARCH_SEL (R181). -/
def addrArchSel : Byte := 0x5A

/-- ARCH_SEL_WRITE: a WRITE_REG of ARCH_SEL (R138). -/
def execArchSelWrite (h : FrameHead) (data : Word) (s : State) : Host.Outcome State Fault Refusal :=
  .next (writeFrame h addrArchSel data s)

/-- TICK_LO_READ: a READ_REG of TICK_LO (R171). -/
def execTickLoRead (h : FrameHead) (s : State) : Host.Outcome State Fault Refusal := .next (readFrame h 0x06 s)

/-- TICK_HI_READ: a READ_REG of TICK_HI (R171). -/
def execTickHiRead (h : FrameHead) (s : State) : Host.Outcome State Fault Refusal := .next (readFrame h 0x07 s)

/-- The address of HBn_CAPT (R181). -/
def addrHbCapt (ch : Fin 4) : Byte := 0x24 + BitVec.ofNat 8 ch.val

/-- HB_CAPT_READ: a READ_REG of HBn_CAPT (R37). -/
def execHbCaptRead (h : FrameHead) (ch : Fin 4) (s : State) : Host.Outcome State Fault Refusal :=
  .next (readFrame h (addrHbCapt ch) s)

/-- LINK_STAT_READ: a READ_REG of LINK_STAT (R44). -/
def execLinkStatRead (h : FrameHead) (s : State) : Host.Outcome State Fault Refusal := .next (readFrame h 0x30 s)

/-- The addresses of LINK_ERRCNT, LINK_FOREIGN and LINK_SEQCNT (R181). -/
def addrLinkCount (r : LinkCountReg) : Byte :=
  match r with
  | .errcnt => 0x31
  | .foreign => 0x32
  | .seqcnt => 0x33

/-- LINK_COUNT_READ: a READ_REG of one of the three count registers (R51). -/
def execLinkCountRead (h : FrameHead) (r : LinkCountReg) (s : State) : Host.Outcome State Fault Refusal :=
  .next (readFrame h (addrLinkCount r) s)

/-- HPORT_ERRCNT_READ: a READ_REG of HPORT_ERRCNT (R19). -/
def execHportErrcntRead (h : FrameHead) (s : State) : Host.Outcome State Fault Refusal := .next (readFrame h 0x61 s)

/-- NOP (R21). -/
def execNop (h : FrameHead) (arg : BitVec 24) (s : State) : Host.Outcome State Fault Refusal :=
  .next (cmdFrame .nop h arg s)

/-- CLEAR_SOURCE (R74). -/
def execClearSource (h : FrameHead) (arg : BitVec 24) (s : State) : Host.Outcome State Fault Refusal :=
  .next (cmdFrame .clearSource h arg s)

/-- INJECT (R75). -/
def execInject (h : FrameHead) (arg : BitVec 24) (s : State) : Host.Outcome State Fault Refusal :=
  .next (cmdFrame .inject h arg s)

/-- RAISE_SW (R76). -/
def execRaiseSw (h : FrameHead) (arg : BitVec 24) (s : State) : Host.Outcome State Fault Refusal :=
  .next (cmdFrame .raiseSw h arg s)

/-- LOWER_SW (R76). -/
def execLowerSw (h : FrameHead) (arg : BitVec 24) (s : State) : Host.Outcome State Fault Refusal :=
  .next (cmdFrame .lowerSw h arg s)

/-- PURGE_NODE (R50). -/
def execPurgeNode (h : FrameHead) (arg : BitVec 24) (s : State) : Host.Outcome State Fault Refusal :=
  .next (cmdFrame .purgeNode h arg s)

/-- ACK_SAFE (R103). -/
def execAckSafe (h : FrameHead) (arg : BitVec 24) (s : State) : Host.Outcome State Fault Refusal :=
  .next (cmdFrame .ackSafe h arg s)

/-- RELEASE_SAFE (R96). -/
def execReleaseSafe (h : FrameHead) (arg : BitVec 24) (s : State) : Host.Outcome State Fault Refusal :=
  .next (cmdFrame .releaseSafe h arg s)

/-- SERVICE (R117). -/
def execService (h : FrameHead) (arg : BitVec 24) (s : State) : Host.Outcome State Fault Refusal :=
  .next (cmdFrame .service h arg s)

/-- POP_JOURNAL (R132). -/
def execPopJournal (h : FrameHead) (arg : BitVec 24) (s : State) : Host.Outcome State Fault Refusal :=
  .next (cmdFrame .popJournal h arg s)

/-- PEEK_JOURNAL (R132). -/
def execPeekJournal (h : FrameHead) (arg : BitVec 24) (s : State) : Host.Outcome State Fault Refusal :=
  .next (cmdFrame .peekJournal h arg s)

/-- OPEN_SESSION (R156). -/
def execOpenSession (h : FrameHead) (arg : BitVec 24) (s : State) : Host.Outcome State Fault Refusal :=
  .next (cmdFrame .openSession h arg s)

/-- CLOSE_APPLY (R158). -/
def execCloseApply (h : FrameHead) (arg : BitVec 24) (s : State) : Host.Outcome State Fault Refusal :=
  .next (cmdFrame .closeApply h arg s)

/-- CLOSE_DISCARD (R159). -/
def execCloseDiscard (h : FrameHead) (arg : BitVec 24) (s : State) : Host.Outcome State Fault Refusal :=
  .next (cmdFrame .closeDiscard h arg s)

/-- COMMIT_PROFILE (R160). -/
def execCommitProfile (h : FrameHead) (arg : BitVec 24) (s : State) : Host.Outcome State Fault Refusal :=
  .next (cmdFrame .commitProfile h arg s)

/-- RESET_COUNTS (R163). -/
def execResetCounts (h : FrameHead) (arg : BitVec 24) (s : State) : Host.Outcome State Fault Refusal :=
  .next (cmdFrame .resetCounts h arg s)

/-- CLEAR_ARCHIVE (R139). -/
def execClearArchive (h : FrameHead) (arg : BitVec 24) (s : State) : Host.Outcome State Fault Refusal :=
  .next (cmdFrame .clearArchive h arg s)

/-- RUN_SELFTEST (R170). -/
def execRunSelftest (h : FrameHead) (arg : BitVec 24) (s : State) : Host.Outcome State Fault Refusal :=
  .next (cmdFrame .runSelftest h arg s)

/-- ENTER_STANDBY (R173). -/
def execEnterStandby (h : FrameHead) (arg : BitVec 24) (s : State) : Host.Outcome State Fault Refusal :=
  .next (cmdFrame .enterStandby h arg s)

/-- WAKE (R174). -/
def execWake (h : FrameHead) (arg : BitVec 24) (s : State) : Host.Outcome State Fault Refusal :=
  .next (cmdFrame .wake h arg s)

/-- SOFT_RESET (R175). -/
def execSoftReset (h : FrameHead) (arg : BitVec 24) (s : State) : Host.Outcome State Fault Refusal :=
  .next (cmdFrame .softReset h arg s)

end Sys2Proof.Machine
end

