-- ==== Sys2Proof/Machine/Batch.lean ====
section
/-!
DEFINITION. The tick batch: the units of Stage A in their order (R70), Stages B and C (R71), the categories of Stage D (R72),
Stages E and F (R73), and which of them run in which supervisor state (R69); and a batch that a reset abandons at a point in it
(R165).
-/

namespace Sys2Proof.Machine

/-! ### Stage A, unit by unit -/

/-- The step of fault line `i` with this level on its pin, if it is sampled in state `x` (R23, R24). -/
def lineStep (x : SupState) (cfg : FlCfg) (level : Bool) (u : FlUnit) : FlUnit :=
  if flSampled x cfg then flStep cfg level u else u

/-- Some line that is sampled in STANDBY completes a qualification: a wake request (R30). -/
def linesWake (old new : Vector FlUnit 16) : Bool :=
  (List.finRange 16).any (fun i => flQualifies (vget old i) (vget new i))

/-- A wake request is signalled in STANDBY (R30, R58, R174). -/
def signalWake (x : SupState) (wanted : Bool) (s : State) : State :=
  if x = .standby ∧ wanted = true then s.setClk { s.clk with wakeReq := true } else s

/-- Unit 1 of Stage A: the fault lines (R24, R30). -/
def stageLines (x : SupState) (pins : BitVec 16) (s : State) : State :=
  let new := vmap (fun i u => lineStep x (vget s.prof.running.fl i) (pins.getLsbD i.val) u) s.fl
  signalWake x (linesWake s.fl new) (s.setFl new)

/-- Unit 2: the heartbeat channels, which are DISARMED outside the states in which they operate (R23, R32). -/
def stageHeartbeats (pins : BitVec 4) (s : State) : State :=
  s.setHb (vmap (fun i u => hbStep (vget s.prof.running.hb i) (pins.getLsbD i.val) u) s.hb)

/-- Unit 3: the peer link (R45). -/
def stageLink (x : SupState) (s : State) : State :=
  if linkOperates s.prof.running.link x then s.setLink (linkStep s.prof.running.link s.link) else s

/-- Unit 4: the watchdog's phase timers (R118). -/
def stageWatchdog (s : State) : State := s.setWd (wdStep s.prof.running.wd s.now s.wd)

/-- Output `i` reads back another level than it is commanded (R148). -/
def mismatch (pins level : BitVec 8) (i : Fin 8) : Bool := pins.getLsbD i.val != level.getLsbD i.val

/-- Unit 5: the read-back comparators, outside INIT (R147). -/
def stageComps (x : SupState) (pins : BitVec 8) (s : State) : State :=
  if x = .init then s
  else
    s.setOut { s.out with
      comps := vmap (fun i c => compStep s.prof.running.osv.filter (mismatch pins s.out.level i) c) s.out.comps }

/-- Unit 6: the clock monitor (R172). -/
def stageClock (windowEnd : Bool) (s : State) : State := s.setClk (clockStep windowEnd s.clk)

/-- Unit 7: the condition of S45 is evaluated from HP_CONSEC (R18, R59). -/
def stagePort (s : State) : State :=
  s.setPort { s.port with s45 := hportFault s.port, s45Detail := s.port.consec.setWidth 8 }

/-- Steps taken one after the other. -/
def runSteps (steps : List (State → State)) (s : State) : State := steps.foldl (fun t f => f t) s

/-- The units of Stage A in their order (R70). -/
def unitSteps (x : SupState) (inp : TickInputs) : List (State → State) :=
  [stageLines x inp.fl, stageHeartbeats inp.hb, stageLink x, stageWatchdog, stageComps x inp.outPins,
   stageClock inp.windowEnd, stagePort]

/-- Stage A of a batch that began in state `x`, with the copy of conditions at its end (R59, R69, R70). -/
def stageA (x : SupState) (inp : TickInputs) (s : State) : State :=
  refreshCrit (copyAll (runSteps (unitSteps x inp) s))

/-! ### Stages B and C -/

/-- Stages B and C, where they run (R69, R71). -/
def stageBC (x : SupState) (s : State) : State :=
  if awake x then
    let r := stageB s
    refreshCrit (stageC r.2 r.1)
  else s

/-! ### Stage D -/

/-- Category 7, in a batch that began in SAFE (R98). -/
def stageRelease (x : SupState) (s : State) : State := if x = .safe then stepAutoRelease s else s

/-- Categories 1 to 7 of Stage D, which run where all timers run; the second and the third are one step (R69, R72). -/
def safetySteps (x : SupState) : List (State → State) :=
  if awake x then [stepExpiry, stepDeadline, stepActions, stepDwell, stepEpMin, stageRelease x] else []

/-- Category 8: self-test steps, and the timed steps of INIT, STANDBY and WAKING. Category 9: the unlock window, the session
limit, and the completion of a nonvolatile operation (R72, R157). -/
def deviceSteps (inp : TickInputs) : List (State → State) :=
  [stepSelftest inp.compFault inp.refPeriods, stepInitBegin, stepWake, stepWakingEnd, stepUnlock, stepSessionLimit,
   stepNv inp.nvDone]

/-- The steps of Stage D in their order (R72). -/
def timerSteps (x : SupState) (inp : TickInputs) : List (State → State) := safetySteps x ++ deviceSteps inp

/-- Stage D (R72). -/
def stageD (x : SupState) (inp : TickInputs) (s : State) : State := refreshCrit (runSteps (timerSteps x inp) s)

/-! ### Stage F and the batch -/

/-- Stage F: nATTN and the announcement request (R73, R77, R53). -/
def stageF (x : SupState) (s : State) : State :=
  let s1 := refreshAttn s
  s1.setLink (linkReport s1.prof.running.link x s1.sup.state s1.link)

/-- The tick counter advances at the start of the batch (R171). -/
def advanceTick (s : State) : State := s.setClk { s.clk with tick := s.clk.tick + 1 }

/-- The stages of a batch that began in state `x`, in order (R1). -/
def runStages (x : SupState) (inp : TickInputs) (s : State) : State :=
  stageF x (stageE (stageD x inp (stageBC x (stageA x inp s))))

/-- The main oscillator runs and batches are being run (R167, R171). -/
def ticking (s : State) : Bool := s.clk.phase == .running

/-! ### The batch, and a reset in it -/

/-- The first `n` records of Stage B have been judged (R71). -/
def someRecords (x : SupState) (n : Nat) (s : State) : State :=
  if awake x then (((List.finRange 56).take n).foldl sourceStep (s, [])).1 else s

/-- Stage B is over, and the first `n` dispatches of Stage C (R71). -/
def someDispatches (x : SupState) (n : Nat) (s : State) : State :=
  if awake x then
    let r := stageB s
    ((arbitrate r.2).take n).foldl (fun s o => dispatch o s) r.1
  else s

/-- A batch that began in state `x`, as far as a point in it (R69 to R73; log 39). -/
def runUntil (x : SupState) (inp : TickInputs) (p : BatchPoint) (s : State) : State :=
  match p with
  | .units n => runSteps ((unitSteps x inp).take n) s
  | .records n => someRecords x n (stageA x inp s)
  | .dispatches n => someDispatches x n (stageA x inp s)
  | .timers n => runSteps ((timerSteps x inp).take n) (stageBC x (stageA x inp s))
  | .outputs => stageE (stageD x inp (stageBC x (stageA x inp s)))

/-- The state in which the stages of a batch begin: nonvolatile memory as it has been damaged by then, and the tick counter
advanced (R135, R152, R171). -/
def batchStart (inp : TickInputs) (s : State) : State :=
  advanceTick (inp.damage.foldl (fun u d => sufferDamage d u) s)

/-- The batch that begins in `s`, as far as the point at which a reset abandons it (R165). -/
def abandonBatch (inp : TickInputs) (p : BatchPoint) (s : State) : State := runUntil s.sup.state inp p (batchStart inp s)

/-- The kind of the reset that a cause begins (R165). -/
def kindOfReset (c : ResetCause) : ResetKind :=
  match c with
  | .supply => .por
  | .nrst => .pin

/-- A tick batch (R1): all of its stages, or, when a reset begins in it, what comes before that point and then the reset, which
completes none of the stages left (R165; log 39). -/
def tickBatch (inp : TickInputs) (s : State) : State :=
  if ticking s then
    match inp.cut with
    | none => runStages s.sup.state inp (batchStart inp s)
    | some c => beginReset (kindOfReset c.cause) (abandonBatch inp c.point s)
  else s

end Sys2Proof.Machine
end

