-- ==== Sys2Proof/Machine/LinkRows.lean ====
section
/-!
DEFINITION. The meanings of the link's events between batches (R40 to R44, R52, R58). What each does follows from the state of
the receiver and transmitter, whatever the rest of the device is doing (logs 11, 17, 43).
-/

namespace Sys2Proof.Machine

/-- The receiver watches for the start bit of a wake (R57, R58). -/
def watchesWake (s : State) : Bool :=
  match s.sup.state, s.link.rx with
  | .standby, .wakeWatch _ => true
  | _, _ => false

/-- A start bit recognised in STANDBY by a receiver that watches for one (R58). -/
def startBitWake (s : State) : State :=
  if watchesWake s then signalWake s.sup.state true (s.setLink (rxWake s.link)) else s

/-- One level of LRX: in STANDBY a low one is a start bit to a receiver that watches for a wake (R58), and every other receiver takes it
by R40 and R41. -/
def lrxLevel (s : State) (x : Bool) : State :=
  if watchesWake s && !x then startBitWake s else s.setLink (rxLevel s.prof.running.link x s.link)

/-- PEER_EVENT_MESSAGE: the levels of a message on LRX, byte by byte (R40 to R42; log 43). -/
def execPeerEventMessage (b0 b1 b2 b3 : LrxLevels) (s : State) : Host.Outcome State Fault Refusal :=
  .next ((b0 ++ b1 ++ b2 ++ b3).foldl lrxLevel s)

/-- FRAMING_ERROR: a byte with a low stop bit (R40, R42). -/
def execFramingError (s : State) : Host.Outcome State Fault Refusal := .next (s.setLink (rxFail countFraming s.link))

/-- TRUNCATED: idle after byte 0, 1 or 2 exceeds one byte-time (R41, R42). -/
def execTruncated (s : State) : Host.Outcome State Fault Refusal := .next (s.setLink (rxFail countTruncated s.link))

/-- EARLY_RUN: an early run's idle reaches 2 byte-times (R41). -/
def execEarlyRun (s : State) : Host.Outcome State Fault Refusal := .next (s.setLink (rxEarlyRun s.link))

/-- RECEIVER_READY: LRX has been idle for 2 byte-times (R41). -/
def execReceiverReady (s : State) : Host.Outcome State Fault Refusal := .next (s.setLink (rxIdle s.link))

/-- START_BIT_WAKE (R58). -/
def execStartBitWake (s : State) : Host.Outcome State Fault Refusal := .next (startBitWake s)

/-- MESSAGE_INTO_FLIGHT (R52, R57). -/
def execMessageIntoFlight (s : State) : Host.Outcome State Fault Refusal :=
  .next (s.setLink (txBegin s.prof.running.link s.sup.state s.link))

/-- MESSAGE_LEAVES_FLIGHT: 2 byte-times after the last stop bit of the message in flight (R52). -/
def execMessageLeavesFlight (s : State) : Host.Outcome State Fault Refusal :=
  .next (s.setLink { s.link with flight := none })

end Sys2Proof.Machine
end

