-- ==== Sys2Proof/Machine/PortRows.lean ====
section
/-!
DEFINITION. The meanings of the rows named by what the port makes of a frame: REJ_LENGTH, REJ_CRC, REJ_FORMAT, REJ_TAG,
RETRANSMISSION, REJ_COMMAND. Each hands its frame to the port, which judges it by R6 (log 3).
-/

namespace Sys2Proof.Machine

/-- REJ_LENGTH (R3, R7): the bits clocked in while nCS was asserted. -/
def execRejLength (start : FrameStart) (bits : List Bool) (s : State) : Host.Outcome State Fault Refusal :=
  .next (hostBits start bits s)

/-- REJ_CRC (R8): six bytes as received. -/
def execRejCrc (start : FrameStart) (f : RawFrame) (s : State) : Host.Outcome State Fault Refusal := .next (hostFrame start f s)

/-- REJ_FORMAT (R8): six bytes as received. -/
def execRejFormat (start : FrameStart) (f : RawFrame) (s : State) : Host.Outcome State Fault Refusal :=
  .next (hostFrame start f s)

/-- REJ_TAG (R11): any command code, tag and argument, with a correct check code. -/
def execRejTag (h : FrameHead) (code : Byte) (arg : BitVec 24) (s : State) : Host.Outcome State Fault Refusal :=
  .next (commandFrame h code arg s)

/-- RETRANSMISSION (R10): any command code, tag and argument, with a correct check code. -/
def execRetransmission (h : FrameHead) (code : Byte) (arg : BitVec 24) (s : State) :
    Host.Outcome State Fault Refusal :=
  .next (commandFrame h code arg s)

/-- REJ_COMMAND (R15): any command code, tag and argument, with a correct check code. -/
def execRejCommand (h : FrameHead) (code : Byte) (arg : BitVec 24) (s : State) : Host.Outcome State Fault Refusal :=
  .next (commandFrame h code arg s)

end Sys2Proof.Machine
end

