-- ==== Sys2Proof/Machine/ResetRows.lean ====
section
/-!
DEFINITION. The meanings of the tick, the resets and the main oscillator: TICK_BATCH, POR, PIN_RESET, RESET_END,
OSCILLATOR_START, MAIN_OSCILLATOR_STOP.
-/

namespace Sys2Proof.Machine

/-- TICK_BATCH (R1): while the main oscillator runs, one batch, or as much of it as a reset leaves (R165). -/
def execTickBatch (inp : TickInputs) (s : State) : Host.Outcome State Fault Refusal := .next (tickBatch inp s)

/-- POR, between batches (R165). -/
def execPor (s : State) : Host.Outcome State Fault Refusal := .next (beginReset .por s)

/-- The shortest low level on nRST, in ns, that may reset the device (R165). -/
def nrstMaybe : Nat := 2000

/-- The shortest low level on nRST, in ns, that always resets the device (R165). -/
def nrstSure : Nat := 10000

/-- PIN_RESET, between batches (R165): none below 2 µs, always from 10 µs on, a complete one or none in between, freely chosen (log 8). -/
def pinResetOn (lowNs : Nat) (s : State) : State :=
  if lowNs < nrstMaybe then s
  else if nrstSure ≤ lowNs then beginPinReset s
  else
    let d := drawBit s
    if d.1 then beginPinReset d.2 else d.2

/-- PIN_RESET (R165). -/
def execPinReset (lowNs : Nat) (s : State) : Host.Outcome State Fault Refusal := .next (pinResetOn lowNs s)

/-- RESET_END (R165). -/
def execResetEnd (s : State) : Host.Outcome State Fault Refusal := .next (endReset s)

/-- The main oscillator has become stable: batches run from now on (R167). -/
def oscillatorStable (s : State) : State :=
  match s.clk.phase with
  | .starting => s.setClk { s.clk with phase := .running }
  | .inReset _ => s
  | .running => s
  | .stopped => s

/-- OSCILLATOR_START (R167): the sticky check and the profile load begin in the first batch (log 22). -/
def execOscillatorStart (s : State) : Host.Outcome State Fault Refusal := .next (oscillatorStable s)

/-- The main oscillator stops: no batch runs and no frame is processed until a reset (R171; log 11). R171 speaks of an oscillator that
has started; a stop of one that is still starting, or in reset, changes nothing here, and the frames that log 10 lets the port
process while it starts go on being processed: DESIGN CHOICE, unsafe (log 41). -/
def oscillatorStops (s : State) : State :=
  match s.clk.phase with
  | .running => s.setClk { s.clk with phase := .stopped }
  | .inReset _ => s
  | .starting => s
  | .stopped => s

/-- MAIN_OSCILLATOR_STOP (R171). -/
def execMainOscillatorStop (s : State) : Host.Outcome State Fault Refusal := .next (oscillatorStops s)

end Sys2Proof.Machine
end

