-- ==== Sys2Proof/Machine/TickRows.lean ====
section
/-!
DEFINITION. The meanings of the rows that are steps inside a tick batch. Each takes the very sub-step of the batch, at the
present tick and on the present state, when what triggers it there holds while the oscillator runs, and otherwise changes
nothing (log 4). A batch itself takes these steps in the order of R70 to R73 (`tickBatch`).
-/

namespace Sys2Proof.Machine

/-- A sub-step is taken only while batches run (R167, R171). -/
def inBatch (f : State → State) (s : State) : State := if ticking s then f s else s

/-- A sub-step of Stage D, with the recomputation of nCRIT at the end of the stage (R114). -/
def inStageD (f : State → State) (s : State) : State := inBatch (fun s => refreshCrit (f s)) s

/-! ### Fault lines and heartbeat channels -/

/-- The active sample that completes line `n`'s qualification, if the next one would (R25, R27, R30). -/
def qualifyLine (n : Fin 16) (s : State) : State :=
  let c := vget s.prof.running.fl n
  let u := vget s.fl n
  let v := lineStep s.sup.state c c.activeHigh u
  if flQualifies u v then signalWake s.sup.state true (s.setFl (vset s.fl n v)) else s

/-- QUALIFICATION (R25). -/
def execQualification (n : Fin 16) (s : State) : Host.Outcome State Fault Refusal := .next (inBatch (qualifyLine n) s)

/-- The inactive sample that completes the release of a LEVEL-mode line, if the next one would (R26). -/
def releaseLine (n : Fin 16) (s : State) : State :=
  let c := vget s.prof.running.fl n
  let u := vget s.fl n
  let v := lineStep s.sup.state c (!c.activeHigh) u
  if (u.state = .asserted ∨ u.state = .releasing) ∧ v.state = .inactive then s.setFl (vset s.fl n v) else s

/-- LINE_RELEASE (R26). -/
def execLineRelease (n : Fin 16) (s : State) : Host.Outcome State Fault Refusal := .next (inBatch (releaseLine n) s)

/-- The sample without an edge in which channel `n`'s counter reaches MAX, if the next one does (R36). -/
def lateHeartbeat (n : Fin 4) (s : State) : State :=
  let u := vget s.hb n
  let v := hbStep (vget s.prof.running.hb n) (u.ref.getD false) u
  if u.state = .running ∧ v.state = .frozen then s.setHb (vset s.hb n v) else s

/-- HEARTBEAT_LATE (R36). -/
def execHeartbeatLate (n : Fin 4) (s : State) : Host.Outcome State Fault Refusal := .next (inBatch (lateHeartbeat n) s)

/-! ### The link -/

/-- The silence step in which node `n`'s SILENCE reaches LINK_TIMEOUT, if the next one does (R47). -/
def silentNode (n : Fin 8) (s : State) : State :=
  let c := s.prof.running.link
  let e := vget s.link.nodes n
  let e' := silenceStep c none n e
  if linkOperates c s.sup.state = true ∧ e.nstate ≠ .silent ∧ e'.nstate = .silent then
    s.setLink { s.link with nodes := vset s.link.nodes n e' }
  else s

/-- SILENT (R47). -/
def execSilent (n : Fin 8) (s : State) : Host.Outcome State Fault Refusal := .next (inBatch (silentNode n) s)

/-- The beacon timer reaches BEACON_PERIOD, if it does in the next Stage F (R53). -/
def beaconTimer (s : State) : State :=
  let c := s.prof.running.link
  if linkOperates c s.sup.state = true ∧ beaconDue c s.link = true then
    s.setLink (handRequest s.sup.state s.link)
  else s

/-- BEACON_TIMER (R53). -/
def execBeaconTimer (s : State) : Host.Outcome State Fault Refusal := .next (inBatch beaconTimer s)

/-- Intake of the oldest inbox entry (R45, R46, R48). -/
def intakeOne (s : State) : State :=
  if linkOperates s.prof.running.link s.sup.state then s.setLink (linkIntake s.prof.running.link s.link).2 else s

/-- INTAKE (R45). -/
def execIntake (s : State) : Host.Outcome State Fault Refusal := .next (inBatch intakeOne s)

/-! ### The clock monitor and the comparators -/

/-- WINDOW_EVALUATION (R172). -/
def execWindowEvaluation (s : State) : Host.Outcome State Fault Refusal := .next (inBatch (stageClock true) s)

/-- The batch that makes the reference missing, if the next one does (R172). -/
def missReference (s : State) : State := if clockMissing ≤ s.clk.winCount + 1 then stageClock false s else s

/-- MISSING_REFERENCE (R172). -/
def execMissingReference (s : State) : Host.Outcome State Fault Refusal := .next (inBatch missReference s)

/-- Comparator `i` takes its step with this sample when `wanted` holds of it, outside INIT (R147, R148). -/
def compOne (i : Fin 8) (sample : Bool) (wanted : Comp → Comp → Bool) (s : State) : State :=
  let c := vget s.out.comps i
  let c' := compStep s.prof.running.osv.filter sample c
  if s.sup.state ≠ .init ∧ wanted c c' = true then s.setOut { s.out with comps := vset s.out.comps i c' } else s

/-- The step in which the settle allowance counts down to 0 (R147). -/
def settleEnds (c c' : Comp) : Bool := c.settle != 0 && c'.settle == 0

/-- SETTLE_ALLOWANCE_END (R147). -/
def execSettleAllowanceEnd (i : Fin 8) (s : State) : Host.Outcome State Fault Refusal :=
  .next (inBatch (compOne i false settleEnds) s)

/-- The step in which a mismatch is qualified (R148). -/
def mismatchStarts (c c' : Comp) : Bool := !c.qual && c'.qual

/-- MISMATCH_QUALIFIED (R148). -/
def execMismatchQualified (i : Fin 8) (s : State) : Host.Outcome State Fault Refusal :=
  .next (inBatch (compOne i true mismatchStarts) s)

/-- The step in which a qualified mismatch is withdrawn (R148). -/
def mismatchEnds (c c' : Comp) : Bool := c.qual && !c'.qual

/-- MISMATCH_WITHDRAWN (R148). -/
def execMismatchWithdrawn (i : Fin 8) (s : State) : Host.Outcome State Fault Refusal :=
  .next (inBatch (compOne i false mismatchEnds) s)

/-- A healthy pair emitting ANTIPHASE takes a due exchange, which moves EP0 and EP1 alone (R143, R144). -/
def exchangeNow (s : State) : State :=
  let c := s.prof.running.ep
  let p := exchangeStep c s.now s.out.pair
  let level := (s.out.level &&& 0xCF) ||| (commandedLevels c s.sup p &&& 0x30)
  if pairNeed s.sup.state s.sup.active = .healthy ∧ p ≠ s.out.pair then
    s.setOut { driveLevels level s.out with pair := p }
  else s

/-- EXCHANGE (R143). -/
def execExchange (s : State) : Host.Outcome State Fault Refusal := .next (inBatch exchangeNow s)

/-! ### Stage D, categories 1 to 7 -/

/-- EXPIRY (R88). -/
def execExpiry (s : State) : Host.Outcome State Fault Refusal := .next (inStageD stepExpiry s)

/-- ACK_DEADLINE_EXPIRY (R102, R106). -/
def execAckDeadlineExpiry (s : State) : Host.Outcome State Fault Refusal := .next (inStageD stepDeadline s)

/-- PULSE_START (R93). -/
def execPulseStart (s : State) : Host.Outcome State Fault Refusal := .next (inStageD stepPulseStart s)

/-- PULSE_END (R93). -/
def execPulseEnd (s : State) : Host.Outcome State Fault Refusal := .next (inStageD stepPulseEnd s)

/-- A due power cut, and PWREN deasserted by the Stage E that follows it (R94, R141). -/
def execCut (s : State) : Host.Outcome State Fault Refusal := .next (inStageD stepCut s)

/-- DWELL_END (R92). -/
def execDwellEnd (s : State) : Host.Outcome State Fault Refusal := .next (inStageD stepDwell s)

/-- EP_MIN_END (R146). -/
def execEpMinEnd (s : State) : Host.Outcome State Fault Refusal := .next (inStageD stepEpMin s)

/-- AUTOMATIC_RELEASE (R98). -/
def execAutomaticRelease (s : State) : Host.Outcome State Fault Refusal := .next (inStageD stepAutoRelease s)

/-! ### The watchdog -/

/-- A due CLOSED phase (R118). -/
def closedEnds (s : State) : State :=
  match s.wd.phase with
  | .closed _ => stageWatchdog s
  | .off => s
  | .held => s
  | .initial _ => s
  | .opn _ => s

/-- CLOSED_PHASE_END (R118). -/
def execClosedPhaseEnd (s : State) : Host.Outcome State Fault Refusal := .next (inBatch closedEnds s)

/-- A due OPEN or INITIAL phase (R118). -/
def openEnds (s : State) : State :=
  match s.wd.phase with
  | .opn _ => stageWatchdog s
  | .initial _ => stageWatchdog s
  | .off => s
  | .held => s
  | .closed _ => s

/-- WATCHDOG_LATE (R118). -/
def execWatchdogLate (s : State) : Host.Outcome State Fault Refusal := .next (inBatch openEnds s)

/-! ### Stage D, categories 8 and 9 -/

/-- SELFTEST_STEP_COMPLETION (R169), with the evidence of steps ST4 and ST5 (log 16). -/
def execSelftestStepCompletion (compFault : BitVec 8) (refPeriods : Nat) (s : State) :
    Host.Outcome State Fault Refusal :=
  .next (inStageD (stepSelftest compFault refPeriods) s)

/-- The operation in progress completes if it is of the kind `wanted` and its fewest ticks have passed (R164; log 6). -/
def finishOp (wanted : NvOp → Bool) (s : State) : State :=
  match s.nv.cur with
  | none => s
  | some (op, _) => if wanted op then stepNv true s else s

/-- The operation is the profile load. -/
def isLoad (op : NvOp) : Bool :=
  match op with
  | .load => true
  | .archWrite _ => false
  | .erase => false
  | .commit _ _ _ => false

/-- The operation is an archive write. -/
def isArchWrite (op : NvOp) : Bool :=
  match op with
  | .archWrite _ => true
  | .load => false
  | .erase => false
  | .commit _ _ _ => false

/-- PROFILE_LOAD_COMPLETION (R153). -/
def execProfileLoadCompletion (s : State) : Host.Outcome State Fault Refusal := .next (inStageD (finishOp isLoad) s)

/-- NV_OPERATION_BEGIN: an idle controller begins the oldest request (R164). -/
def execNvOperationBegin (s : State) : Host.Outcome State Fault Refusal := .next (inBatch nvBegin s)

/-- ARCHIVE_WRITE_COMPLETION (R137). -/
def execArchiveWriteCompletion (s : State) : Host.Outcome State Fault Refusal :=
  .next (inStageD (finishOp isArchWrite) s)

/-- ARCHIVE_ERASURE_COMPLETION (R139). -/
def execArchiveErasureCompletion (s : State) : Host.Outcome State Fault Refusal := .next (inStageD (finishOp isErase) s)

/-- COMMIT_COMPLETION (R160). -/
def execCommitCompletion (s : State) : Host.Outcome State Fault Refusal := .next (inStageD (finishOp isCommit) s)

/-- UNLOCK_WINDOW_EXPIRY (R156). -/
def execUnlockWindowExpiry (s : State) : Host.Outcome State Fault Refusal := .next (inStageD stepUnlock s)

/-- SESSION_LIMIT_EXPIRY (R157). -/
def execSessionLimitExpiry (s : State) : Host.Outcome State Fault Refusal := .next (inStageD stepSessionLimit s)

/-- WAKE_REQUEST (R174). -/
def execWakeRequest (s : State) : Host.Outcome State Fault Refusal := .next (inStageD stepWake s)

/-- WAKING_END (R174). -/
def execWakingEnd (s : State) : Host.Outcome State Fault Refusal := .next (inStageD stepWakingEnd s)

end Sys2Proof.Machine
end

