-- ==== Sys2Proof/Machine/Dispatch.lean ====
section
/-!
DEFINITION. The dispatch of a command to its meaning, one arm for each row of spec/opcode_table.json, in the table's order.
-/

namespace Sys2Proof.Machine

/-- The effect of a command on everything but the queue. -/
def exec (i : Instr) (s : State) : Host.Outcome State Fault Refusal :=
  match i with
  | .tickBatch inp => Sys2Proof.Machine.execTickBatch inp s
  | .por => Sys2Proof.Machine.execPor s
  | .pinReset lowNs => Sys2Proof.Machine.execPinReset lowNs s
  | .resetEnd => Sys2Proof.Machine.execResetEnd s
  | .oscillatorStart => Sys2Proof.Machine.execOscillatorStart s
  | .rejLength start bits => Sys2Proof.Machine.execRejLength start bits s
  | .rejCrc start f => Sys2Proof.Machine.execRejCrc start f s
  | .rejFormat start f => Sys2Proof.Machine.execRejFormat start f s
  | .rejTag h code arg => Sys2Proof.Machine.execRejTag h code arg s
  | .retransmission h code arg => Sys2Proof.Machine.execRetransmission h code arg s
  | .rejCommand h code arg => Sys2Proof.Machine.execRejCommand h code arg s
  | .nop h arg => Sys2Proof.Machine.execNop h arg s
  | .writeReg h addr data => Sys2Proof.Machine.execWriteReg h addr data s
  | .archSelWrite h data => Sys2Proof.Machine.execArchSelWrite h data s
  | .tickLoRead h => Sys2Proof.Machine.execTickLoRead h s
  | .tickHiRead h => Sys2Proof.Machine.execTickHiRead h s
  | .hbCaptRead h ch => Sys2Proof.Machine.execHbCaptRead h ch s
  | .linkStatRead h => Sys2Proof.Machine.execLinkStatRead h s
  | .linkCountRead h r => Sys2Proof.Machine.execLinkCountRead h r s
  | .hportErrcntRead h => Sys2Proof.Machine.execHportErrcntRead h s
  | .clearSource h arg => Sys2Proof.Machine.execClearSource h arg s
  | .inject h arg => Sys2Proof.Machine.execInject h arg s
  | .raiseSw h arg => Sys2Proof.Machine.execRaiseSw h arg s
  | .lowerSw h arg => Sys2Proof.Machine.execLowerSw h arg s
  | .purgeNode h arg => Sys2Proof.Machine.execPurgeNode h arg s
  | .ackSafe h arg => Sys2Proof.Machine.execAckSafe h arg s
  | .releaseSafe h arg => Sys2Proof.Machine.execReleaseSafe h arg s
  | .service h arg => Sys2Proof.Machine.execService h arg s
  | .popJournal h arg => Sys2Proof.Machine.execPopJournal h arg s
  | .peekJournal h arg => Sys2Proof.Machine.execPeekJournal h arg s
  | .openSession h arg => Sys2Proof.Machine.execOpenSession h arg s
  | .closeApply h arg => Sys2Proof.Machine.execCloseApply h arg s
  | .closeDiscard h arg => Sys2Proof.Machine.execCloseDiscard h arg s
  | .commitProfile h arg => Sys2Proof.Machine.execCommitProfile h arg s
  | .resetCounts h arg => Sys2Proof.Machine.execResetCounts h arg s
  | .clearArchive h arg => Sys2Proof.Machine.execClearArchive h arg s
  | .runSelftest h arg => Sys2Proof.Machine.execRunSelftest h arg s
  | .enterStandby h arg => Sys2Proof.Machine.execEnterStandby h arg s
  | .wake h arg => Sys2Proof.Machine.execWake h arg s
  | .softReset h arg => Sys2Proof.Machine.execSoftReset h arg s
  | .qualification n => Sys2Proof.Machine.execQualification n s
  | .lineRelease n => Sys2Proof.Machine.execLineRelease n s
  | .heartbeatLate n => Sys2Proof.Machine.execHeartbeatLate n s
  | .silent n => Sys2Proof.Machine.execSilent n s
  | .beaconTimer => Sys2Proof.Machine.execBeaconTimer s
  | .windowEvaluation => Sys2Proof.Machine.execWindowEvaluation s
  | .missingReference => Sys2Proof.Machine.execMissingReference s
  | .settleAllowanceEnd c => Sys2Proof.Machine.execSettleAllowanceEnd c s
  | .mismatchQualified c => Sys2Proof.Machine.execMismatchQualified c s
  | .mismatchWithdrawn c => Sys2Proof.Machine.execMismatchWithdrawn c s
  | .exchange => Sys2Proof.Machine.execExchange s
  | .expiry => Sys2Proof.Machine.execExpiry s
  | .ackDeadlineExpiry => Sys2Proof.Machine.execAckDeadlineExpiry s
  | .pulseStart => Sys2Proof.Machine.execPulseStart s
  | .pulseEnd => Sys2Proof.Machine.execPulseEnd s
  | .cut => Sys2Proof.Machine.execCut s
  | .dwellEnd => Sys2Proof.Machine.execDwellEnd s
  | .epMinEnd => Sys2Proof.Machine.execEpMinEnd s
  | .automaticRelease => Sys2Proof.Machine.execAutomaticRelease s
  | .closedPhaseEnd => Sys2Proof.Machine.execClosedPhaseEnd s
  | .watchdogLate => Sys2Proof.Machine.execWatchdogLate s
  | .selftestStepCompletion compFault refPeriods => Sys2Proof.Machine.execSelftestStepCompletion compFault refPeriods s
  | .profileLoadCompletion => Sys2Proof.Machine.execProfileLoadCompletion s
  | .nvOperationBegin => Sys2Proof.Machine.execNvOperationBegin s
  | .archiveWriteCompletion => Sys2Proof.Machine.execArchiveWriteCompletion s
  | .archiveErasureCompletion => Sys2Proof.Machine.execArchiveErasureCompletion s
  | .commitCompletion => Sys2Proof.Machine.execCommitCompletion s
  | .unlockWindowExpiry => Sys2Proof.Machine.execUnlockWindowExpiry s
  | .sessionLimitExpiry => Sys2Proof.Machine.execSessionLimitExpiry s
  | .wakeRequest => Sys2Proof.Machine.execWakeRequest s
  | .wakingEnd => Sys2Proof.Machine.execWakingEnd s
  | .peerEventMessage b0 b1 b2 b3 => Sys2Proof.Machine.execPeerEventMessage b0 b1 b2 b3 s
  | .framingError => Sys2Proof.Machine.execFramingError s
  | .truncated => Sys2Proof.Machine.execTruncated s
  | .earlyRun => Sys2Proof.Machine.execEarlyRun s
  | .receiverReady => Sys2Proof.Machine.execReceiverReady s
  | .intake => Sys2Proof.Machine.execIntake s
  | .startBitWake => Sys2Proof.Machine.execStartBitWake s
  | .messageIntoFlight => Sys2Proof.Machine.execMessageIntoFlight s
  | .messageLeavesFlight => Sys2Proof.Machine.execMessageLeavesFlight s
  | .mainOscillatorStop => Sys2Proof.Machine.execMainOscillatorStop s

end Sys2Proof.Machine
end

