-- ==== Sys2Proof/Safety.lean ====
section
/-!
DEFINITION. The terms in which claims are stated: the parts of the state and frames over them, when a frame is processed and
its command executed, what an executed command leaves in the port, what a reset leaves, what a dispatch, an escalation step, an
APPLY and a tick batch do, and the invariants of the journal and of the Supervisor.
-/

namespace Sys2Proof.Machine

/-! ### Frames -/

/-- The parts of the state: the fields of `State`. -/
inductive Part where
  | clk
  | ret
  | port
  | fl
  | hb
  | link
  | src
  | sw
  | sup
  | ack
  | wd
  | jrn
  | arch
  | out
  | prof
  | nv
  | st
  | sel
  | attn
  | crit
  | free
  | pending
deriving DecidableEq, Repr

/-- The states agree on a part. -/
def samePart (p : Part) (s t : State) : Prop :=
  match p with
  | .clk => t.clk = s.clk
  | .ret => t.ret = s.ret
  | .port => t.port = s.port
  | .fl => t.fl = s.fl
  | .hb => t.hb = s.hb
  | .link => t.link = s.link
  | .src => t.src = s.src
  | .sw => t.sw = s.sw
  | .sup => t.sup = s.sup
  | .ack => t.ack = s.ack
  | .wd => t.wd = s.wd
  | .jrn => t.jrn = s.jrn
  | .arch => t.arch = s.arch
  | .out => t.out = s.out
  | .prof => t.prof = s.prof
  | .nv => t.nv = s.nv
  | .st => t.st = s.st
  | .sel => t.sel = s.sel
  | .attn => t.attn = s.attn
  | .crit => t.crit = s.crit
  | .free => t.free = s.free
  | .pending => t.pending = s.pending

/-- From `s` to `t` only the listed parts may have changed. -/
def onlyParts (l : List Part) (s t : State) : Prop := ∀ p, p ∉ l → samePart p s t

/-- What the Supervisor, with the blocks it reaches, can change. -/
def supParts : List Part := [.sup, .jrn, .prof, .ack, .out, .nv, .free, .ret, .wd, .st]

/-- What the end of INIT, and the steps that lead there, can change. -/
def initParts : List Part := [.clk, .hb, .src, .sup, .jrn, .prof, .ack, .out, .nv, .free, .ret, .wd, .st, .arch]

/-! ### Frames on the host port -/

/-- A frame with this start is processed: nCS was asserted after the last reset, the device is not in reset and its oscillator
has not stopped (R20, R171). -/
def portOpen (start : FrameStart) (s : State) : Bool :=
  start != .beforeResetEnd && (s.clk.phase == .starting || s.clk.phase == .running)

/-- A frame with this tag would be accepted as new (R9). -/
def tagIsNew (s : State) (tag : BitVec 3) : Bool := !s.port.synced || tag == s.port.lastTag + 1

/-- A frame that carries this command passes all eight checks of R6 and is executed. -/
def executes (c : Cmd) (h : FrameHead) (arg : BitVec 24) (s : State) : Bool :=
  portOpen h.start s && tagIsNew s h.tag && permitted c s.sup.state (sessionOpen s) && argInRange c s.sel.page arg &&
    accessAllowed c (sessionOpen s) arg

/-- The port after the frame of an executed command: SYNCHRONISED on its tag, HP_CONSEC 0, the result stored and in the
response slot with the status of the state after the command, the counts and the last rejection as they were (R9, R12, R14,
R18, R19). -/
def answered (h : FrameHead) (res : Res) (data : BitVec 24) (s t : State) : Prop :=
  t.port =
    { s.port with
      synced := true, lastTag := h.tag, consec := 0
      stored := some { tag := h.tag, res := res, data := data }
      slot := { status := globalStatus t, tag := h.tag, res := res, data := data }
      sdo := sdoBits h.start 48 s.port.slot }

/-- nATTN, ATTN_SUM and nCRIT agree with the rest of the state, as every executed command and every batch
leaves them (R77, R114). -/
def flagsCurrent (t : State) : Prop := t.attn = computeAttn t ∧ t.crit = critNow t

/-- A pending unlock step has been cancelled; the rest of the store and of the session is as it was (R156). -/
def unlockCancelled (s t : State) : Prop := t.prof = (cancelUnlock s).prof

/-- The state after the frame of an executed command: the port has answered, the flags are current, and beside them only the
listed parts and the store (a pending unlock step, R156) may have changed. -/
def commandDone (l : List Part) (h : FrameHead) (res : Res) (data : BitVec 24) (s t : State) : Prop :=
  answered h res data s t ∧ flagsCurrent t ∧ onlyParts (.port :: .attn :: .crit :: .prof :: l) s t

/-- A command REFUSED for a reason has changed nothing but the port, the flags and a pending unlock step (R13, R156). -/
def commandRefused (r : Reason) (h : FrameHead) (s t : State) : Prop :=
  commandDone [] h .refused (argOf (reasonCode r) 0 0) s t ∧ unlockCancelled s t

/-- The source records are those of `base`, with COND, detail and NODE copied for each source whose condition differs between
`s` and `t` (R59). -/
def srcFollows (base : Vector SrcRec 56) (s t : State) : Prop :=
  t.src = vmap (fun j r => if unitCond s j = unitCond t j then r else copyOne t j r) base

/-- The journal of `t` is that of `s` with these records created one after the other, at the tick, in the episode and under
the policy of `s` (R127, R130). -/
def journaled (bs : List RecBody) (s t : State) : Prop := t.jrn = (bs.foldl (fun u b => writeRec b u) s).jrn

/-! ### The NV Controller -/

/-- An idle NV Controller has no request waiting (R164). -/
def NvInv (s : State) : Prop := s.nv.cur = none → s.nv.queue = []

/-- The controller after its operation is over: the oldest request begins at this tick (R164). -/
def nvAdvanced (s : State) : NvCtrl :=
  match s.nv.queue with
  | [] => { cur := none, queue := [] }
  | op :: rest => { cur := some (op, s.now), queue := rest }

/-- The store when the next request begins: a commit removes the marker of its bank (R152, R160, R164). -/
def storeAdvanced (s : State) (p : ProfileStore) : ProfileStore :=
  match s.nv.queue with
  | .commit b _ _ :: _ => removeMarker b p
  | _ => p

/-- A controller after a request at this tick: it begins at once when the controller is idle, and waits otherwise (R164). -/
def requested (op : NvOp) (now : Tick) (c : NvCtrl) : NvCtrl :=
  match c.cur with
  | none => { cur := some (op, now), queue := [] }
  | some _ => { c with queue := c.queue ++ [op] }

/-- The controller of `s` after a request (R164). -/
def nvAsked (op : NvOp) (s : State) : NvCtrl := requested op s.now s.nv

/-- A commit to bank `b` is being written (R160). -/
def committing (b : BankId) (s : State) : Bool :=
  match s.nv.cur with
  | some (.commit b' _ _, _) => b == b'
  | _ => false

/-- Bank `b` reads ERASED or DAMAGED (R152). -/
def bankUnusable (b : BankId) (t : State) : Prop :=
  readBank (bankOf b t.prof) = .erased ∨ readBank (bankOf b t.prof) = .damaged

/-! ### Damage -/

/-- The stages of a batch begin with slot `i` alone damaged: the tick counter has advanced, and the snapshot and every other slot
are as they were (R135, R138). -/
def onlySlotHurt (i : Fin 4) (s t : State) : Prop :=
  onlyParts [.clk, .arch] s t ∧ t.clk = { s.clk with tick := s.clk.tick + 1 } ∧ t.arch.view = s.arch.view ∧
    ∀ j, j ≠ i → vget t.arch.slots j = vget s.arch.slots j

/-- The stages of a batch begin with bank `b` alone damaged (R152). -/
def onlyBankHurt (b : BankId) (s t : State) : Prop :=
  onlyParts [.clk, .prof] s t ∧ t.clk = { s.clk with tick := s.clk.tick + 1 } ∧
    t.prof = setBank b (bankOf b t.prof) s.prof

/-! ### The abort of a session -/

/-- The controller when the requests of a session's commit are taken from it: a waiting one is withdrawn, and one that had begun
stops at once, so that the next request begins (R161, R164). -/
def withoutCommit (s : State) : NvCtrl :=
  let rest := s.nv.queue.filter (fun op => !isCommit op)
  if committing .bankA s || committing .bankB s then
    match rest with
    | [] => { cur := none, queue := [] }
    | op :: rest => { cur := some (op, s.now), queue := rest }
  else { s.nv with queue := rest }

/-- The controller after an abort (R159, R161). -/
def nvAfterAbort (s : State) : NvCtrl :=
  if sessionOpen s = true ∧ s.prof.commit = .busy then withoutCommit s else s.nv

/-- What an abort leaves in the Profile Store: an open session closed and its staging copy dropped; a commit outstanding
ABANDONED, its bank as it was when it had not begun, and ERASED or DAMAGED when it had; the running configuration, the current
bank, the generation and the other bank as they were (R159, R161). Without an open session it is `p`. -/
def sessionAborted (p : ProfileStore) (s t : State) : Prop :=
  (sessionOpen s = false → t.prof = p) ∧
    (sessionOpen s = true →
      t.prof = { s.prof with
        session := .closed, commit := if s.prof.commit = .busy then .abandoned else s.prof.commit
        bankA := t.prof.bankA, bankB := t.prof.bankB } ∧
      ∀ b, (s.prof.commit ≠ .busy ∨ committing b s = false → bankOf b t.prof = bankOf b s.prof) ∧
        (s.prof.commit = .busy → committing b s = true → bankUnusable b t))

/-- The store after a change of the supervisor state, but for an abort: a pending unlock step is cancelled (R156). -/
def storeUnlocked (s : State) : ProfileStore := (cancelUnlock s).prof

/-! ### Ack requests and escalation -/

/-- The request created with the low 8 bits of `seq` as its token: WAITING unless the host-reset action is IDLE in `t` (R100,
R101). -/
def newRequest (seq : Word) (s t : State) : AckReq :=
  { token := seq.setWidth 8
    created := s.now
    deadline := if hostResetIdle t then some (addTicks s.now (tenMsTicks s.prof.running.sup.ackLimit)) else none
    bad := false }

/-- The escalation level after a step (R106). -/
def levelAfter (s : State) : BitVec 2 :=
  if s.ack.level < s.prof.running.sup.escCeiling then s.ack.level + 1 else s.ack.level

/-- The level whose action the step performs (R106). -/
def levelPerformed (s : State) : BitVec 2 :=
  if s.ack.level < s.prof.running.sup.escCeiling then s.ack.level + 1 else s.prof.running.sup.escCeiling

/-- A step that performs the action of level 1: P7 is merged and a new request replaces the old one (R107). -/
def escalatedOnce (s t : State) : Prop :=
  t.sup =
      { s.sup with
        active := mergeActive 7 (planOf s 7) s.sup.active
        dwell := mergeDwell (planOf s 7) s.now s.sup.dwell
        hostReset := requestPulse (planOf s 7) s.now s.sup.hostReset
        powerCut := requestCut (planOf s 7) s.now s.sup.powerCut } ∧
    t.out = { s.out with epMin := mergeEpMin (planOf s 7) s.prof.running.ep.min s.now s.out.epMin } ∧
    t.ack = { req := some (newRequest s.jrn.seq s t), level := levelAfter s } ∧
    journaled [.escalate (levelAfter s)] s t ∧ onlyParts [.sup, .out, .ack, .jrn, .port, .src, .attn, .crit, .prof] s t

/-- The end of the pulse of level 2 (R108). -/
def pulseStop (s : State) : Tick :=
  match s.sup.hostReset with
  | .pulsing e => laterTick (addTicks s.now (msTicks (planOf s 7).hrstPulse)) e
  | .idle => addTicks s.now (msTicks (planOf s 7).hrstPulse)
  | .delaying _ _ => addTicks s.now (msTicks (planOf s 7).hrstPulse)

/-- A step that performs the action of level 2: nHRST is pulsed at once, no plan is merged, the request is new and WAITING
(R108); the watchdog is held when the pulse starts (R121). -/
def escalatedTwice (s t : State) : Prop :=
  t.sup = { s.sup with hostReset := .pulsing (pulseStop s) } ∧
    t.wd = (if pulsingNow s then s.wd else wdHold s.wd) ∧
    t.ack = { req := some (newRequest s.jrn.seq s t), level := levelAfter s } ∧
    journaled [.escalate (levelAfter s)] s t ∧ onlyParts [.sup, .wd, .ack, .jrn, .port, .src, .attn, .crit, .prof] s t

/-- The archive entry of an entry into LOCKDOWN from `s` that leaves `t` (R136). -/
def lockdownRecord (s t : State) : ArchEntry :=
  { cause := .lockdownEntry, prior := some .safe, level := 3, first := s.sup.first, jseq := some t.jrn.seq,
    resets := s.ret.resets }

/-- The NV Controller has a request for this operation, waiting or begun (R164). -/
def nvHolds (op : NvOp) (t : State) : Prop := op ∈ t.nv.queue ∨ ∃ k, t.nv.cur = some (op, k)

/-- A step that performs the action of level 3: LOCKDOWN is entered, with the effects of R111. -/
def escalatedLast (s t : State) : Prop :=
  t.sup = { s.sup with state := .lockdown, dwell := none, hostReset := .idle, powerCut := .idle } ∧
    t.ack = { req := none, level := levelAfter s } ∧ t.out = { s.out with epMin := none } ∧
    t.ret = { s.ret with sticky := true } ∧ t.wd = { s.wd with phase := .off } ∧ sessionOpen t = false ∧
    t.prof.running = s.prof.running ∧ nvHolds (.archWrite (lockdownRecord s t)) t ∧
    (NvInv s → sessionAborted (storeUnlocked s) s t ∧
      t.nv = requested (.archWrite (lockdownRecord s t)) s.now (nvAfterAbort s)) ∧
    journaled ([.escalate (levelAfter s), .state s.sup.state .lockdown] ++
      if sessionOpen s then [.session .abort] else []) s t ∧
    onlyParts [.sup, .ack, .out, .ret, .wd, .prof, .nv, .free, .jrn, .port, .src, .attn, .crit] s t

/-- The escalation step from `s` to `t`, by the level whose action it performs (R106). A ceiling of 0 cannot be stored (R182). -/
def escalated (s t : State) : Prop :=
  (levelPerformed s = 1 → escalatedOnce s t) ∧ (levelPerformed s = 2 → escalatedTwice s t) ∧
    (levelPerformed s = 3 → escalatedLast s t)

/-! ### The link -/

/-- A byte on the link: a low start bit, the data least significant bit first, and the stop bit (R40). -/
def byteFrame (b : Byte) (stop : Bool) : LrxLevels :=
  [false, b.getLsbD 0, b.getLsbD 1, b.getLsbD 2, b.getLsbD 3, b.getLsbD 4, b.getLsbD 5, b.getLsbD 6, b.getLsbD 7, stop]

/-- The receiver is one that takes messages, ready or not: it neither ignores LRX nor watches for a wake (R57). -/
def receives (rx : RxState) : Bool :=
  match rx with
  | .off _ => false
  | .wakeWatch _ => false
  | .notReady _ => true
  | .ready => true
  | .assembling _ _ => true

/-! ### Resets -/

/-- Every volatile item of state has its reset value (R165). -/
def volatileInitial (t : State) : Prop :=
  t =
    { State.reset with
      clk := t.clk, ret := t.ret, arch := resetArch t.arch.slots, prof := resetProf t.prof.bankA t.prof.bankB,
      free := t.free, pending := t.pending }

/-- Slot `i` is the newest: its claim passes with ordinal `o`, and no other claimed slot's ordinal follows `o` by 1 to 127 in
modulo-256 order (R137). -/
def newestWith (slots : Vector ArchSlot 4) (i : Fin 4) (o : Byte) : Prop :=
  claimOrd (vget slots i) = some o ∧
    ∀ j b, j ≠ i → claimOrd (vget slots j) = some b → ¬ (1 ≤ (b - o).toNat ∧ (b - o).toNat ≤ 127)

/-- An archive write goes to slot `i` with ordinal `o`: slot 0 with ordinal 0 when no claim passes, and else the slot after the
newest, with the next ordinal (R137). Where the ordinals single out no newest slot the choice is free (log 9). -/
def writeGoesTo (slots : Vector ArchSlot 4) (i : Fin 4) (o : Byte) : Prop :=
  ((∀ j, claimOrd (vget slots j) = none) → i = 0 ∧ o = 0) ∧
    ∀ n a, newestWith slots n a → (∀ m b, newestWith slots m b → m = n) → i = n + 1 ∧ o = a + 1

/-- What a reset makes of the archive: a write cut off leaves its slot INVALID, without an ordinal or with its own, and every
other slot as it was; an erasure cut off leaves each slot EMPTY, as it was, or INVALID; otherwise every slot is kept (R137,
R139; log 7). -/
def archiveAfterReset (s t : State) : Prop :=
  (∀ e k, s.nv.cur = some (.archWrite e, k) →
    ∃ i o, writeGoesTo s.arch.slots i o ∧
      (readSlot (vget t.arch.slots i) = .invalid none ∨ readSlot (vget t.arch.slots i) = .invalid (some o)) ∧
      ∀ j, j ≠ i → vget t.arch.slots j = vget s.arch.slots j) ∧
    (∀ k, s.nv.cur = some (.erase, k) →
      ∀ j, readSlot (vget t.arch.slots j) = .empty ∨ vget t.arch.slots j = vget s.arch.slots j ∨
        ∃ o, readSlot (vget t.arch.slots j) = .invalid o) ∧
    ((∀ e k, s.nv.cur ≠ some (.archWrite e, k)) → (∀ k, s.nv.cur ≠ some (.erase, k)) → t.arch.slots = s.arch.slots)

/-- What a reset makes of nonvolatile memory: a bank being committed is ERASED or DAMAGED, every other bank is kept (R152,
R161), and the archive is as `archiveAfterReset` says. -/
def nvAfterReset (s t : State) : Prop :=
  (∀ b, committing b s = false → bankOf b t.prof = bankOf b s.prof) ∧
    (∀ b, committing b s = true → bankUnusable b t) ∧ archiveAfterReset s t

/-- A reset of this kind has begun (R165). -/
def resetBegun (kind : ResetKind) (s t : State) : Prop :=
  t.clk = resetClk (.inReset kind) kind ∧ volatileInitial t ∧ nvAfterReset s t ∧ t.pending = s.pending

/-- The retained domain when a PIN or SOFT reset has begun (R166). -/
def latchedRetained (s : State) : Retained :=
  { sticky := s.ret.sticky, resets := satInc s.ret.resets,
    latch := some { prior := s.sup.state, level := s.ack.level, first := s.sup.first, jseq := s.jrn.seq } }

/-! ### Dispatch -/

/-- A self-test run in progress has been aborted; without one the self-test is as it was (R170). -/
def runAborted (s t : State) : Prop :=
  t.st = if selftestRunning s then { s.st with result := .aborted } else s.st

/-- The episode counter after a dispatch that leaves NORMAL or stays in its episode (R80). -/
def episodeAfter (s : State) : Word := if s.sup.state = .normal then s.sup.episode + 1 else s.sup.episode

/-- The first source after a dispatch that leaves NORMAL or stays in its episode (R80). -/
def firstAfter (o : Occ) (s : State) : Option SrcId := if s.sup.state = .normal then some o.src else s.sup.first

/-- A dispatch from NORMAL or ALERT into SAFE, by a CRITICAL or by an ALARM that exhausts the Alarm List (R80, R82, R87, R90, R91,
R92, R100, R101). -/
def dispatchedIntoSafe (exhausted : Bool) (o : Occ) (s t : State) : Prop :=
  onlyParts supParts s t ∧ runAborted s t ∧ t.ret = s.ret ∧ t.wd = s.wd ∧
    t.sup =
      { s.sup with
        state := .safe, alarms := [], episode := episodeAfter s, first := firstAfter o s, cause := some o.src
        fullCount := if exhausted then satInc s.sup.fullCount else s.sup.fullCount
        active := mergeActive o.plan (planOf s o.plan) emptyPlan
        dwell := some (addTicks s.now (tenMsTicks (planOf s o.plan).dwell))
        hostReset := requestPulse (planOf s o.plan) s.now s.sup.hostReset
        powerCut := requestCut (planOf s o.plan) s.now s.sup.powerCut } ∧
    t.ack = { s.ack with req :=
      if (planOf s o.plan).ack = true ∧ (planOf s o.plan).pwrCut = false then some (newRequest (s.jrn.seq + 1) s t)
      else s.ack.req } ∧
    t.out = { s.out with epMin := mergeEpMin (planOf s o.plan) s.prof.running.ep.min s.now s.out.epMin } ∧
    sessionAborted (storeUnlocked s) s t ∧ t.nv = nvAfterAbort s ∧
    journaled ([.raise o.src o.cls o.injected o.promoted exhausted o.node o.detail, .state s.sup.state .safe] ++
      if sessionOpen s then [.session .abort] else []) (s.setSup { s.sup with episode := episodeAfter s }) t

/-- Entry `x` of the Alarm List expires before entry `y`, or with it and has the lower source number (R85). -/
def alarmFirst (x y : Alarm) : Prop :=
  x.expiry = y.expiry ∧ x.src.val < y.src.val ∨ x.expiry ≠ y.expiry ∧ isDue y.expiry x.expiry = true

/-- The dispatch of an ALARM from NORMAL or ALERT that finds room in the Alarm List (R80, R82, R85). -/
def dispatchedToAlert (o : Occ) (s t : State) : Prop :=
  onlyParts [.sup, .jrn, .prof, .st] s t ∧ runAborted s t ∧
    t.sup =
      { s.sup with
        state := .alert, alarms := t.sup.alarms, episode := episodeAfter s, first := firstAfter o s } ∧
    (∃ before after : List Alarm,
      s.sup.alarms = before ++ after ∧
        t.sup.alarms = before ++
          { src := o.src, expiry := addTicks s.now (o.alarmTime.toNat * 10), plan := o.plan } :: after ∧
        (∀ y ∈ before,
          ¬ alarmFirst { src := o.src, expiry := addTicks s.now (o.alarmTime.toNat * 10), plan := o.plan } y) ∧
        ∀ y, after.head? = some y →
          alarmFirst { src := o.src, expiry := addTicks s.now (o.alarmTime.toNat * 10), plan := o.plan } y) ∧
    t.prof = (if s.sup.state = .normal then (cancelUnlock s).prof else s.prof) ∧
    journaled ([.raise o.src .alarm o.injected o.promoted false o.node o.detail] ++
      if s.sup.state = .normal then [.state .normal .alert] else []) (s.setSup { s.sup with episode := episodeAfter s }) t

/-- The dispatch of a CRITICAL in SAFE, before any escalation: its plan is merged, a request is created when none is pending, the
plan's effective ACK is yes and no plan merged so far cuts the power, and an open session is aborted (R83, R91, R92, R100, R146,
R159). -/
def dispatchedInSafe (o : Occ) (s t : State) : Prop :=
  onlyParts [.sup, .out, .ack, .jrn, .prof, .nv, .free, .st] s t ∧ runAborted s t ∧
    t.sup =
      { s.sup with
        active := mergeActive o.plan (planOf s o.plan) s.sup.active
        dwell := mergeDwell (planOf s o.plan) s.now s.sup.dwell
        hostReset := requestPulse (planOf s o.plan) s.now s.sup.hostReset
        powerCut := requestCut (planOf s o.plan) s.now s.sup.powerCut } ∧
    t.ack = { s.ack with req :=
      if s.ack.req = none ∧ (planOf s o.plan).ack = true ∧ (planOf s o.plan).pwrCut = false ∧
          s.sup.active.pwrCut = false then some (newRequest s.jrn.seq s t)
      else s.ack.req } ∧
    t.out = { s.out with epMin := mergeEpMin (planOf s o.plan) s.prof.running.ep.min s.now s.out.epMin } ∧
    sessionAborted s.prof s t ∧ t.nv = nvAfterAbort s ∧
    journaled ([.raise o.src .critical o.injected o.promoted false o.node o.detail] ++
      if sessionOpen s then [.session .abort] else []) s t

/-! ### An APPLY, block by block -/

/-- R31: a fault line whose POLARITY or MODE changes starts afresh, and every other one is untouched. -/
def linesApplied (old new : Profile) (s t : State) : Prop :=
  ∀ i,
    ((vget old.fl i).activeHigh ≠ (vget new.fl i).activeHigh ∨ (vget old.fl i).mode ≠ (vget new.fl i).mode →
      vget t.fl i = { (vget s.fl i) with state := .inactive, count := 0, hold := .none }) ∧
    ((vget old.fl i).activeHigh = (vget new.fl i).activeHigh → (vget old.fl i).mode = (vget new.fl i).mode →
      vget t.fl i = vget s.fl i)

/-- R39: a channel that is disabled enters DISARMED, one that is enabled enters ARMING, and one that stays enabled under another
EDGE, MIN or MAX enters ARMING from ARMING and RUNNING, keeping its reference; every other one is untouched. -/
def channelsApplied (old new : Profile) (s t : State) : Prop :=
  ∀ i,
    let c := vget old.hb i
    let c' := vget new.hb i
    let u := vget s.hb i
    (c.enable = true → c'.enable = false → vget t.hb i = { u with state := .disarmed, counter := 0, ref := none }) ∧
    (c.enable = false → c'.enable = true → vget t.hb i = { u with state := .arming, counter := 0, ref := none }) ∧
    (c.enable = true → c'.enable = true → (c.edge ≠ c'.edge ∨ c.min ≠ c'.min ∨ c.max ≠ c'.max) →
      (u.state = .arming ∨ u.state = .running → vget t.hb i = { u with state := .arming, counter := 0 }) ∧
      (u.state = .frozen ∨ u.state = .disarmed → vget t.hb i = u)) ∧
    (c.enable = true → c'.enable = true → c.edge = c'.edge → c.min = c'.min → c.max = c'.max → vget t.hb i = u) ∧
    (c.enable = false → c'.enable = false → vget t.hb i = u)

/-- The values with which a disabled link stands: inbox, sets and Node Table empty, nothing pending or announced; the message in
flight, the counts of R51 and the sequence counter stay (R54). -/
def linkStopped (l l' : Link) : Prop :=
  l'.rx = .off (lineIdle l.rx) ∧ l'.inbox = [] ∧ l'.overrun = false ∧ l'.leaky = 0 ∧
    (∀ n, vget l'.nodes n = { lastSeq := none, nstate := .unknown, silence := 0 }) ∧
    (∀ k, vget l'.sets k = 0 ∧ vget l'.last k = none) ∧ l'.s44 = false ∧ l'.pendingTx = none ∧ l'.beacon = 0 ∧
    l'.announced = none ∧ l'.flight = l.flight ∧ l'.framing = l.framing ∧ l'.truncation = l.truncation ∧ l'.crc = l.crc ∧
    l'.malformed = l.malformed ∧ l'.foreign = l.foreign ∧ l'.dup = l.dup ∧ l'.gap = l.gap ∧ l'.txSeq = l.txSeq

/-- Node `n` is watched under the old configuration and no longer under the new one (R55). -/
def nodeLeaves (old new : LinkCfg) (n : Fin 8) : Bool := watched old n && !watched new n

/-- R55: the entry of a node that leaves or joins the watched set starts anew, a node that leaves is removed from every code set,
and a set that thereby becomes empty loses its record; nothing else changes. -/
def linkRewatched (old new : LinkCfg) (l l' : Link) : Prop :=
  l' = { l with nodes := l'.nodes, sets := l'.sets, last := l'.last } ∧
    (∀ n, vget l'.nodes n = if watched old n = watched new n then vget l.nodes n
      else { lastSeq := none, nstate := .unknown, silence := 0 }) ∧
    ∀ k : Fin 16,
      (∀ n : Fin 8, (vget l'.sets k).getLsbD n.val = ((vget l.sets k).getLsbD n.val && !nodeLeaves old new n)) ∧
        vget l'.last k =
          if vget l'.sets k = 0 ∧ vget l.sets k ≠ 0 then none else vget l.last k

/-- R54 and R55: what an APPLY does to the link, by the change of LINK_ENABLE. -/
def linkApplied (old new : LinkCfg) (l l' : Link) : Prop :=
  (old.enable = true → new.enable = false → linkStopped l l') ∧
    (old.enable = false → new.enable = true → l' = { l with rx := .notReady .uncounted }) ∧
    (old.enable = true → new.enable = true → linkRewatched old new l l') ∧
    (old.enable = false → new.enable = false → l' = l)

/-- R123: what an APPLY does to the watchdog, by the change of WD_ENABLE. -/
def watchdogApplied (old new : WdCfg) (s t : State) : Prop :=
  (old.enable = false → new.enable = true →
    (∀ stop, s.sup.hostReset = .pulsing stop → t.wd = { s.wd with phase := .held }) ∧
    ((∀ stop, s.sup.hostReset ≠ .pulsing stop) →
      t.wd = { s.wd with phase := .initial (addTicks s.now (tenMsTicks new.initial)) })) ∧
    (old.enable = true → new.enable = false → t.wd = { s.wd with phase := .off, viol := 0 }) ∧
    (old.enable = new.enable → t.wd = s.wd)

/-! ### The self-test and archive writes -/

/-- The check of self-test step `n` passes (R169): the running configuration is the one coded (log 15); every plan field is in
range and both checks of R158 hold; in a shadow supervisor NOTICE changes nothing, ALARM creates one entry in ALERT, CRITICAL
reaches SAFE with P0 merged into an empty plan (log 16); no comparator fails to report; 24 to 27 reference periods. -/
def checkPasses (n : Nat) (compFault : BitVec 8) (refPeriods : Nat) (s : State) : Prop :=
  (n = 1 → s.prof.running = s.prof.coded) ∧
    (n = 2 →
      (∀ k, (vget s.prof.running.plans k).hrstPulse ≠ 0 ∧ (vget s.prof.running.plans k).dwell ≠ 0) ∧
      (∀ i, (vget s.prof.running.hb i).min.toNat < (vget s.prof.running.hb i).max.toNat) ∧
      ∀ i, (vget s.prof.running.desc i).enable = true → (vget s.prof.running.desc i).alarmTime = 0 →
        (vget s.prof.running.desc i).cls ≠ .alarm ∧
          ((vget s.prof.running.desc i).cls = .notice → (vget s.prof.running.desc i).promoteAt = 0)) ∧
    (n = 3 →
      (dispatch (testOcc .notice) (shadow s)).sup = (shadow s).sup ∧
      (dispatch (testOcc .alarm) (shadow s)).sup.state = .alert ∧
      (dispatch (testOcc .alarm) (shadow s)).sup.alarms.length = 1 ∧
      (dispatch (testOcc .critical) (shadow s)).sup.state = .safe ∧
      (dispatch (testOcc .critical) (shadow s)).sup.active = mergeActive 0 (planOf s 0) emptyPlan) ∧
    (n = 4 → compFault = 0) ∧ (n = 5 → 24 ≤ refPeriods ∧ refPeriods ≤ 27)

/-- An archive write with entry `e` has completed: its slot is VALID and every other slot as it was (R137). -/
def slotWritten (e : ArchEntry) (s t : State) : Prop :=
  ∃ i o, writeGoesTo s.arch.slots i o ∧ readSlot (vget t.arch.slots i) = .valid o e ∧
    ∀ j, j ≠ i → vget t.arch.slots j = vget s.arch.slots j

/-! ### The end of INIT -/

/-- INIT has ended in SAFE, from `u` to `t`: episode 1 with the lower-numbered of the latched S48 and S49 as first source and cause,
the two latched by the evidence with COUNT and INJ as they were, SAFE entered with plan P0, a request whose token is the low 8
bits of the STATE record's SEQ, and the watchdog in its first phase (R80, R90, R100, R120, R168). -/
def initEndedInSafe (u t : State) : Prop :=
  let p := planOf u 0
  let c : SrcId := if u.st.lastFail = none then 49 else 48
  t.sup =
      { u.sup with
        state := .safe, alarms := [], episode := u.sup.episode + 1, first := some c, cause := some c
        active := mergeActive 0 p emptyPlan, dwell := some (addTicks u.now (tenMsTicks p.dwell))
        hostReset := requestPulse p u.now u.sup.hostReset, powerCut := requestCut p u.now u.sup.powerCut } ∧
    (∀ n, u.st.lastFail = some n →
      vget t.src 48 = { (vget u.src 48) with
        state := .active, cond := true, eff := some .critical, node := none, detail := BitVec.ofNat 8 n }) ∧
    (u.st.lastFail = none → vget t.src 48 = vget u.src 48) ∧
    (u.prof.dflt = true →
      vget t.src 49 = { (vget u.src 49) with
        state := .active, cond := true, eff := some .critical, node := none, detail := u.prof.s49Detail }) ∧
    (u.prof.dflt = false → vget t.src 49 = vget u.src 49) ∧
    (∀ i, i ≠ 48 → i ≠ 49 → vget t.src i = vget u.src i) ∧
    t.ack = { u.ack with req :=
      if p.ack = true ∧ p.pwrCut = false then some (newRequest u.jrn.seq u t) else u.ack.req } ∧
    (u.jrn.seq = 0 → p.ack = true → p.pwrCut = false → t.ack.req.map (fun r => r.token) = some 0x00) ∧
    t.out = { u.out with epMin := mergeEpMin p u.prof.running.ep.min u.now u.out.epMin } ∧
    t.wd = (if u.prof.running.wd.enable then
      { u.wd with phase := .initial (addTicks u.now (tenMsTicks u.prof.running.wd.initial)) } else u.wd) ∧
    sessionAborted (storeUnlocked u) u t ∧ t.nv = nvAfterAbort u ∧ t.ret = u.ret ∧ t.st = u.st ∧
    journaled ([.state u.sup.state .safe] ++ if sessionOpen u then [.session .abort] else [])
      (u.setSup { u.sup with episode := u.sup.episode + 1 }) t

/-- INIT has ended in NORMAL (R120, R168). -/
def initEndedInNormal (u t : State) : Prop :=
  t.sup = { u.sup with state := .normal } ∧ t.src = u.src ∧ t.ack = u.ack ∧ t.out = u.out ∧
    t.wd = (if u.prof.running.wd.enable then
      { u.wd with phase := .initial (addTicks u.now (tenMsTicks u.prof.running.wd.initial)) } else u.wd) ∧
    t.prof = storeUnlocked u ∧ t.nv = u.nv ∧ t.ret = u.ret ∧ t.st = u.st ∧
    journaled [.state u.sup.state .normal] u t

/-- INIT has ended in LOCKDOWN: a STATE record alone, and the watchdog stays OFF (R111, R120, R168). -/
def initEndedInLockdown (u t : State) : Prop :=
  t.sup = { u.sup with state := .lockdown } ∧ t.src = u.src ∧ t.ack = u.ack ∧ t.out = u.out ∧ t.wd = u.wd ∧
    t.prof = storeUnlocked u ∧ t.nv = u.nv ∧ t.ret = u.ret ∧ t.st = u.st ∧
    journaled [.state u.sup.state .lockdown] u t

/-- INIT has ended, in LOCKDOWN, SAFE or NORMAL in that order of choice, and the enabled heartbeat channels are ARMING (R23,
R39, R167, R168; at the end in LOCKDOWN too, log 12). -/
def initEnded (u t : State) : Prop :=
  t.clk = { u.clk with initStep := .done } ∧
    (u.ret.sticky = true → initEndedInLockdown u t) ∧
    (u.ret.sticky = false → (u.prof.dflt = true ∨ u.st.lastFail ≠ none) → initEndedInSafe u t) ∧
    (u.ret.sticky = false → u.prof.dflt = false → u.st.lastFail = none → initEndedInNormal u t) ∧
    ∀ i, vget t.hb i =
      if (vget u.prof.running.hb i).enable then { (vget u.hb i) with state := .arming, counter := 0, ref := none }
      else vget u.hb i

/-! ### A tick batch, stage by stage -/

/-- The sample completes the qualification of a fault line (R25, R27). -/
def lineQualifies (c : FlCfg) (level : Bool) (u : FlUnit) : Bool :=
  level == c.activeHigh &&
    (u.state == .inactive && c.filt == 0 || u.state == .qualifying && decide (c.filt.toNat ≤ u.count))

/-- The sample completes the release of a fault line (R26). -/
def lineReleases (c : FlCfg) (level : Bool) (u : FlUnit) : Bool :=
  level != c.activeHigh &&
    (u.state == .asserted && c.filt == 0 || u.state == .releasing && decide (c.filt.toNat ≤ u.count))

/-- One sample of a fault line takes it from `u` to `v`: the table of section 2.2, the pulse hold and the detail (R24 to R29;
log 32). -/
def lineSampled (c : FlCfg) (level : Bool) (u v : FlUnit) : Prop :=
  v.level = level ∧
    (level = c.activeHigh →
      (lineQualifies c level u = true → v.state = (if c.mode = .level then .asserted else .spent) ∧ v.count = 0) ∧
      (u.state = .inactive → c.filt ≠ 0 → v.state = .qualifying ∧ v.count = 1) ∧
      (u.state = .qualifying → u.count < c.filt.toNat → v.state = .qualifying ∧ v.count = u.count + 1) ∧
      (u.state = .releasing → v.state = .asserted ∧ v.count = 0) ∧
      (u.state = .asserted ∨ u.state = .spent → v.state = u.state ∧ v.count = u.count)) ∧
    (level ≠ c.activeHigh →
      (lineReleases c level u = true → v.state = .inactive ∧ v.count = 0) ∧
      (u.state = .asserted → c.filt ≠ 0 → v.state = .releasing ∧ v.count = 1) ∧
      (u.state = .releasing → u.count < c.filt.toNat → v.state = .releasing ∧ v.count = u.count + 1) ∧
      (u.state = .qualifying ∨ u.state = .spent → v.state = .inactive ∧ v.count = 0) ∧
      (u.state = .inactive → v.state = .inactive ∧ v.count = u.count)) ∧
    v.hold =
      (if lineQualifies c level u = true ∧ c.mode = .pulse ∧ u.hold ≠ .waiting then .waiting
      else if u.hold = .seen then .none else u.hold) ∧
    v.detail = if lineQualifies c level u = true ∧ (c.mode = .level ∨ u.hold ≠ .waiting) then flDetail c else u.detail

/-- The sample differs from the channel's reference in the direction that EDGE counts (R32). -/
def edgeCounted (c : HbCfg) (level : Bool) (u : HbUnit) : Bool :=
  u.ref == some (!level) && (c.edge == .both || c.edge == .rising && level || c.edge == .falling && !level)

/-- One sample of a heartbeat channel takes it from `u` to `v`: the first edge in ARMING (R33), a good interval (R34), EARLY
(R35), LATE (R36), and FROZEN (R37), with the detail of a violation (R38). -/
def channelSampled (c : HbCfg) (level : Bool) (u v : HbUnit) : Prop :=
  let n := u.counter + 1
  (u.state = .disarmed → v = u) ∧
    (u.state = .arming →
      v = if edgeCounted c level u = true then { u with ref := some level, state := .running, counter := 0 }
        else { u with ref := some level }) ∧
    (u.state = .frozen → v = { u with ref := some level }) ∧
    (u.state = .running →
      (edgeCounted c level u = true → c.min.toNat ≤ n.toNat →
        v = { u with ref := some level, counter := 0, capt := n }) ∧
      (edgeCounted c level u = true → n.toNat < c.min.toNat →
        v = { u with
          ref := some level, state := .frozen, counter := 0, capt := n, viol := .early
          detail := BitVec.ofNat 8 (min n.toNat 127) }) ∧
      (edgeCounted c level u = false → c.max.toNat ≤ n.toNat →
        v = { u with
          ref := some level, state := .frozen, counter := 0, capt := c.max, viol := .late
          detail := BitVec.ofNat 8 (128 + min c.max.toNat 127) }) ∧
      (edgeCounted c level u = false → n.toNat < c.max.toNat → v = { u with ref := some level, counter := n }))

/-- The link's step of Stage A: a suspended link resumes (R58; log 33), the oldest inbox entry is taken as the row INTAKE takes
it (R45), every other watched node is silent for one tick more (R47), and S44 is judged (R43). -/
def linkSampled (s a : State) : Prop :=
  let c := s.prof.running.link
  ∃ l1 l2 : Link,
    l1 = { s.link with
      rx := if receives s.link.rx then s.link.rx else .notReady .uncounted
      nodes := l1.nodes, beacon := if s.link.suspended then 0 else s.link.beacon, suspended := false } ∧
    (∀ n, vget l1.nodes n =
      if s.link.suspended = true ∧ watched c n = true ∧ (vget s.link.nodes n).nstate ≠ .silent then
        { (vget s.link.nodes n) with silence := 0 }
      else vget s.link.nodes n) ∧
    exec .intake (s.setLink l1) = .next (s.setLink l2) ∧
    (∀ n, vget a.link.nodes n =
      if watched c n = false ∨ (vget l2.nodes n).nstate = .silent ∨ l1.inbox.head?.map (fun m => m.node) = some n then
        vget l2.nodes n
      else
        { (vget l2.nodes n) with
          silence := (vget l2.nodes n).silence + 1
          nstate := if c.timeout.toNat * 100 ≤ (vget l2.nodes n).silence + 1 then .silent
            else (vget l2.nodes n).nstate }) ∧
    a.link = { l2 with
      nodes := a.link.nodes, s44 := decide (c.errLimit.toNat ≤ l2.leaky.toNat) || l2.overrun
      s44Detail := (bit l2.overrun : BitVec 1) ++ (0 : BitVec 2) ++ l2.leaky }

/-- The watchdog's step of Stage A (R118). -/
def watchdogSampled (s a : State) : Prop :=
  let c := s.prof.running.wd
  (∀ due, s.wd.phase = .closed due →
    a.wd = if isDue s.now due then { s.wd with phase := .opn (addTicks s.now (msTicks c.opn)) } else s.wd) ∧
    (∀ due, s.wd.phase = .opn due ∨ s.wd.phase = .initial due →
      a.wd = if isDue s.now due then
        { phase := .closed (addTicks s.now (msTicks c.closed)), challenge := nextChallenge s.wd.challenge
          viol := satInc s.wd.viol, last := .late }
        else s.wd) ∧
    (s.wd.phase = .off ∨ s.wd.phase = .held → a.wd = s.wd)

/-- One step of a comparator, its sample a mismatch or a match, takes it from `c` to `c'` (R147, R148). -/
def comparatorSampled (filter : BitVec 4) (mismatch : Bool) (c c' : Comp) : Prop :=
  c' =
    if c.settle ≠ 0 then { c with settle := c.settle - 1 }
    else if mismatch = c.qual then { c with count := 0 }
    else if filter.toNat ≤ c.count.toNat + 1 then { c with qual := !c.qual, count := 0 }
    else { c with count := c.count + 1 }

/-- The clock monitor's count and condition after its step (R172; log 18). -/
def clockSampled (windowEnd : Bool) (c c' : Clock) : Prop :=
  (windowEnd = true → c'.winCount = 1 ∧
    c'.monCond = if 94 ≤ c.winCount ∧ c.winCount ≤ 106 then none else some (BitVec.ofNat 8 (min c.winCount 254))) ∧
    (windowEnd = false → 199 ≤ c.winCount → c'.winCount = 0 ∧ c'.monCond = some 255) ∧
    (windowEnd = false → c.winCount < 199 → c'.winCount = c.winCount + 1 ∧ c'.monCond = c.monCond)

/-- Stage A takes `s` to `a`: every unit that operates has taken its step, and every record holds the condition, detail and
NODE of its unit (R59, R69, R70). -/
def stageARuns (inp : TickInputs) (s a : State) : Prop :=
  let x := s.sup.state
  let p := s.prof.running
  onlyParts [.fl, .hb, .link, .wd, .out, .clk, .port, .src, .crit] s a ∧
    (∀ n, if flSampled x (vget p.fl n) then lineSampled (vget p.fl n) (inp.fl.getLsbD n.val) (vget s.fl n) (vget a.fl n)
      else vget a.fl n = vget s.fl n) ∧
    (∀ n, channelSampled (vget p.hb n) (inp.hb.getLsbD n.val) (vget s.hb n) (vget a.hb n)) ∧
    (if linkOperates p.link x then linkSampled s a else a.link = s.link) ∧ watchdogSampled s a ∧
    a.out = { s.out with comps := a.out.comps } ∧
    (∀ i, if x = .init then vget a.out.comps i = vget s.out.comps i
      else comparatorSampled p.osv.filter (inp.outPins.getLsbD i.val != s.out.level.getLsbD i.val)
        (vget s.out.comps i) (vget a.out.comps i)) ∧
    clockSampled inp.windowEnd s.clk a.clk ∧
    a.clk = { s.clk with
      winCount := a.clk.winCount, monCond := a.clk.monCond
      wakeReq := s.clk.wakeReq || x == .standby && (List.finRange 16).any (fun n =>
        flSampled x (vget p.fl n) && lineQualifies (vget p.fl n) (inp.fl.getLsbD n.val) (vget s.fl n)) } ∧
    a.port = { s.port with s45 := decide (4 ≤ s.port.consec.toNat), s45Detail := s.port.consec.setWidth 8 } ∧
    (∀ i, vget a.src i = { (vget s.src i) with
      cond := unitCond a i, condDetail := unitDetail a i, condNode := unitNode a i }) ∧
    a.crit = critNow a

/-- Stage B takes `a` to `b`: every record takes the row of the table of R61 that applies, the raises are collected and the
CLEAR records written in ascending source number, and waiting pulse holds have been seen (R28, R61, R62, R71, R86). -/
def stageBRuns (a b : State) (occs : List Occ) : Prop :=
  ∃ src : Vector SrcRec 56,
    (∀ i, vget src i = (srcStep (vget a.prof.running.desc i) (vget a.src i)).1) ∧
    occs = ((List.finRange 56).filter (fun i => (srcStep (vget a.prof.running.desc i) (vget a.src i)).2 == .raise)).map
      (fun i => raiseOcc i (vget a.prof.running.desc i) (vget a.src i)) ∧
    b = (((List.finRange 56).filter (fun i => (srcStep (vget a.prof.running.desc i) (vget a.src i)).2 == .clear)).foldl
      (fun u i => clearEffects i u) (a.setSrc src)).setFl b.fl ∧
    ∀ n, vget b.fl n =
      { (vget a.fl n) with hold := if (vget a.fl n).hold = .waiting then .seen else (vget a.fl n).hold }

/-- `x` comes no later than `y` in arbitration: by class, then priority, then source number (R68). -/
def arbitrated (x y : Occ) : Prop :=
  clsRank x.cls < clsRank y.cls ∨
    clsRank x.cls = clsRank y.cls ∧
      (x.priority.toNat < y.priority.toNat ∨ x.priority = y.priority ∧ x.src.val ≤ y.src.val)

/-- Stage C takes `b` to `c`: each occurrence is dispatched once, in arbitration order (R68, R71). -/
def stageCRuns (occs : List Occ) (b c : State) : Prop :=
  ∃ order : List Occ, order.Perm occs ∧ order.Pairwise arbitrated ∧
    c = refreshCrit (order.foldl (fun u o => dispatch o u) b)

/-- Commands performed one after the other. -/
def performed (rows : List Instr) (s : State) : State :=
  rows.foldl (fun u i => match exec i u with
    | .next v => v
    | _ => u) s

/-- The rows of categories 1 to 7 of Stage D in their order; the automatic release belongs to a batch that began in SAFE (R69,
R72, R98). -/
def safetyRows (x : SupState) : List Instr :=
  [.expiry, .ackDeadlineExpiry, .pulseEnd, .pulseStart, .cut, .dwellEnd, .epMinEnd] ++
    if x = .safe then [.automaticRelease] else []

/-- The row by which the operation of the NV Controller completes. -/
def completionRow (op : NvOp) : Instr :=
  match op with
  | .load => .profileLoadCompletion
  | .archWrite _ => .archiveWriteCompletion
  | .erase => .archiveErasureCompletion
  | .commit _ _ _ => .commitCompletion

/-- Stage D of a batch that began in `x` takes `c` to `d` by its rows in the order of R72: in category 8 the self-test step,
the beginning of the profile load in the first batch of INIT (log 22), and the wake; in category 9 the unlock window, the
session limit, and the operation of the NV Controller if it completes in this batch (log 6). -/
def stageDRuns (x : SupState) (inp : TickInputs) (c d : State) : Prop :=
  ∃ d1 d2 d3 : State,
    d1 = performed ((if awake x then safetyRows x else []) ++ [.selftestStepCompletion inp.compFault inp.refPeriods]) c ∧
    d2 = (if d1.sup.state = .init ∧ d1.clk.initStep = .first then
      nvRequest .load (d1.setClk { d1.clk with initStep := .load }) else d1) ∧
    d3 = performed [.wakeRequest, .wakingEnd, .unlockWindowExpiry, .sessionLimitExpiry] d2 ∧
    (d3.nv.cur = none → d = d3) ∧
    ∀ op k, d3.nv.cur = some (op, k) →
      d = if nvReady op k d3.now inp.nvDone then performed [completionRow op] d3 else d3

/-- The pair after a Stage E that began with `p` (table of R141, R142 to R145). -/
def pairAfter (s : State) (p : Pair) : Prop :=
  let c := s.prof.running.ep
  let begins : Pair :=
    if c.proto = .static then .static else .antiphase true (addTicks s.now (c.half.toNat * 10)) false
  (s.sup.state = .init → s.out.pair = p) ∧
    (s.sup.state = .lockdown ∨ s.sup.state = .safe ∧ s.sup.active.epFault = true → s.out.pair = .fault) ∧
    (s.sup.state = .standby ∨ s.sup.state = .waking → s.out.pair = .static) ∧
    (s.sup.state = .normal ∨ s.sup.state = .alert ∨ s.sup.state = .safe ∧ s.sup.active.epFault = false →
      (p = .static ∨ p = .fault ∨ p = .reset → s.out.pair = begins) ∧
      ∀ ph due pending, p = .antiphase ph due pending →
        s.out.pair =
          if isDue s.now due = false then p
          else if pending then .static else .antiphase (!ph) (addTicks s.now (c.half.toNat * 10)) false)

/-- Stage E takes `d` to `e`: the pair, then every commanded level; each output that moves starts its settle allowance (R73,
R140, R147). -/
def stageERuns (d e : State) : Prop :=
  e = d.setOut e.out ∧ e.out.epMin = d.out.epMin ∧ pairAfter e d.out.pair ∧
    e.out.level = commandedLevels e.prof.running.ep e.sup e.out.pair ∧
    ∀ j : Fin 8, vget e.out.comps j =
      if e.out.level.getLsbD j.val = d.out.level.getLsbD j.val then vget d.out.comps j
      else { (vget d.out.comps j) with settle := 2, count := 0 }

/-- Stage F of a batch that began in `x` takes `e` to `t`: nATTN with ATTN_SUM, and the announcement of a changed state or of a
due beacon; STANDBY is announced once, and the batch that leaves it announces nothing (R53, R57, R73, R77; log 19). -/
def stageFRuns (x : SupState) (e t : State) : Prop :=
  let c := e.prof.running.link
  let handed : Link := { e.link with pendingTx := some e.sup.state, announced := some e.sup.state, beacon := 0 }
  t = (e.setAttn (computeAttn e)).setLink t.link ∧
    (c.enable = false ∨ x = .init → t.link = e.link) ∧
    (c.enable = true → x = .standby →
      t.link = if e.sup.state = .standby ∧ e.link.announced ≠ some .standby then handed else e.link) ∧
    (c.enable = true → x ≠ .init → x ≠ .standby →
      t.link =
        if e.link.announced ≠ some e.sup.state ∨ c.beaconPeriod.toNat * 100 ≤ e.link.beacon + 1 then handed
        else { e.link with beacon := e.link.beacon + 1 })

/-- A batch takes `s`, whose nonvolatile memory may have been damaged since the last batch, to `t` stage by stage, the supervisor
state at its start deciding which of them run (R1, R69 to R73). -/
def batchRuns (inp : TickInputs) (s t : State) : Prop :=
  ∃ a c d e : State,
    stageARuns inp (batchStart inp s) a ∧
    (if awake s.sup.state then ∃ b occs, stageBRuns a b occs ∧ stageCRuns occs b c else c = a) ∧
    stageDRuns s.sup.state inp c d ∧ stageERuns d e ∧ stageFRuns s.sup.state e t

/-! ### Invariants -/

/-- The journal holds at most 32 records, and records are lost only while it holds 32 (R125, R131). -/
def JrnInv (s : State) : Prop :=
  s.jrn.recs.length ≤ journalCap ∧ (s.jrn.lost ≠ 0 → s.jrn.recs.length = journalCap)

/-- The structure of the Supervisor's state: the Alarm List holds at most 8 entries, and some exactly in ALERT (R85, R86); an
ack request, a dwell, a host-reset action or a power-cut action exists only in SAFE (R78, R99); a session is open only in
NORMAL, ALERT and SAFE (R15); a commit is outstanding only while its session is open (R161). -/
def SupInv (s : State) : Prop :=
  s.sup.alarms.length ≤ alarmCap ∧ (s.sup.alarms ≠ [] ↔ s.sup.state = .alert) ∧
    (s.sup.state ≠ .safe →
      s.ack.req = none ∧ s.sup.dwell = none ∧ s.sup.hostReset = .idle ∧ s.sup.powerCut = .idle) ∧
    (sessionOpen s = true → s.sup.state = .normal ∨ s.sup.state = .alert ∨ s.sup.state = .safe) ∧
    (s.prof.commit = .busy → sessionOpen s = true)

/-- A SYNCHRONISED port holds a stored result (R9, R10; log 28). -/
def PortInv (s : State) : Prop := s.port.synced = true → s.port.stored.isSome = true

/-- What holds of every state a run can reach. -/
def Inv (s : State) : Prop := JrnInv s ∧ SupInv s ∧ NvInv s ∧ PortInv s

end Sys2Proof.Machine
end

