-- ==== Sys2Proof/WellFormed.lean ====
section
/-!
DEFINITION. Which operands a row of the table can carry: the frame a row names is one that the checks of R6 which do not look
at the device's state would judge as the row says, and a command's argument is one of those that R16 calls in range. The port
judges every frame for itself, well-formed or not (log 3). A row of a complete message on LRX shows four byte frames with high
stop bits (R40); the receiver judges every level for itself (log 43).
-/

namespace Sys2Proof

open Machine

/-- An address that a WRITE_REG row may name: writable, and not ARCH_SEL, which has a row of its own (R176, R181). -/
def writableAddr (addr : Byte) : Bool :=
  addr != 0x5A && (regAccess addr == some .rw || regAccess addr == some .cs)

/-- The operands of a command are well-formed. -/
def wellFormed (i : Instr) : Bool :=
  match i with
  | .rejLength _ bits => bits.length != 0 && bits.length != 48
  | .rejCrc _ f => !frameCrcOk f
  | .rejFormat _ f => frameCrcOk f && frameLow5 f != 0
  | .rejTag _ _ _ => true
  | .retransmission _ _ _ => true
  | .rejCommand _ code _ => (cmdOf code).isNone
  | .nop _ arg => argInRange .nop false arg
  | .writeReg _ addr data => writableAddr addr && (writeValueOk addr false data || writeValueOk addr true data)
  | .archSelWrite _ data => writeValueOk 0x5A false data
  | .tickLoRead _ => true
  | .tickHiRead _ => true
  | .hbCaptRead _ _ => true
  | .linkStatRead _ => true
  | .linkCountRead _ _ => true
  | .hportErrcntRead _ => true
  | .clearSource _ arg => argInRange .clearSource false arg
  | .inject _ arg => argInRange .inject false arg
  | .raiseSw _ arg => argInRange .raiseSw false arg
  | .lowerSw _ arg => argInRange .lowerSw false arg
  | .purgeNode _ arg => argInRange .purgeNode false arg
  | .ackSafe _ arg => argInRange .ackSafe false arg
  | .releaseSafe _ arg => argInRange .releaseSafe false arg
  | .service _ arg => argInRange .service false arg
  | .popJournal _ arg => argInRange .popJournal false arg
  | .peekJournal _ arg => argInRange .peekJournal false arg
  | .openSession _ arg => argInRange .openSession false arg
  | .closeApply _ arg => argInRange .closeApply false arg
  | .closeDiscard _ arg => argInRange .closeDiscard false arg
  | .commitProfile _ arg => argInRange .commitProfile false arg
  | .resetCounts _ arg => argInRange .resetCounts false arg
  | .clearArchive _ arg => argInRange .clearArchive false arg
  | .runSelftest _ arg => argInRange .runSelftest false arg
  | .enterStandby _ arg => argInRange .enterStandby false arg
  | .wake _ arg => argInRange .wake false arg
  | .softReset _ arg => argInRange .softReset false arg
  | .tickBatch _ => true
  | .por => true
  | .pinReset _ => true
  | .resetEnd => true
  | .oscillatorStart => true
  | .qualification _ => true
  | .lineRelease _ => true
  | .heartbeatLate _ => true
  | .silent _ => true
  | .beaconTimer => true
  | .windowEvaluation => true
  | .missingReference => true
  | .settleAllowanceEnd _ => true
  | .mismatchQualified _ => true
  | .mismatchWithdrawn _ => true
  | .exchange => true
  | .expiry => true
  | .ackDeadlineExpiry => true
  | .pulseStart => true
  | .pulseEnd => true
  | .cut => true
  | .dwellEnd => true
  | .epMinEnd => true
  | .automaticRelease => true
  | .closedPhaseEnd => true
  | .watchdogLate => true
  | .selftestStepCompletion _ _ => true
  | .profileLoadCompletion => true
  | .nvOperationBegin => true
  | .archiveWriteCompletion => true
  | .archiveErasureCompletion => true
  | .commitCompletion => true
  | .unlockWindowExpiry => true
  | .sessionLimitExpiry => true
  | .wakeRequest => true
  | .wakingEnd => true
  | .peerEventMessage b0 b1 b2 b3 => [b0, b1, b2, b3].all (fun b => isByteFrame b && (linkByte b).isSome)
  | .framingError => true
  | .truncated => true
  | .earlyRun => true
  | .receiverReady => true
  | .intake => true
  | .startBitWake => true
  | .messageIntoFlight => true
  | .messageLeavesFlight => true
  | .mainOscillatorStop => true

end Sys2Proof
end

