-- ==== Sys2Proof/Certificates/Slice0/Obligations.lean ====
section
/-!
DEFINITION. The statements for the provers. Each docstring names the rules it formalises; OBLIGATIONS.json lists them.
-/

section

open Sys2Proof Sys2Proof.Machine

/-! ### The machine as a whole -/

/-- A step performs the command at the front of the queue on the state with the rest of the queue, and idles on an empty queue.
That commands wait in a queue is the model's choice (log 2). -/
def Obligations.StepTakesFrontCommand : Prop :=
  (∀ (c : Instr) (rest : List Instr) (s : State), s.pending = c :: rest → step s = exec c (s.setPending rest)) ∧
    ∀ s : State, s.pending = [] → step s = .next s

/-- Every command completes in every state with a next state that leaves the queue alone: no rule of the spec stops the
device. -/
def Obligations.EveryCommandCompletes : Prop :=
  ∀ (i : Instr) (s : State), ∃ t, exec i s = .next t ∧ t.pending = s.pending

/-! ### Resets and the main oscillator -/

/-- A power-on reset clears the retained domain and every volatile item and keeps nonvolatile memory but for the operation it cuts
off; one that begins while a batch is in progress abandons that batch where it has come to, from its first unit of Stage A to
the end of its Stage E, and completes nothing more of it; SOFT_RESET begins a SOFT reset in its own step, capturing prior state
NORMAL, its result never stored; while a self-test runs it is refused (R20, R113, R137, R139, R152, R161, R165, R166, R175; the
model's choices: where a reset can fall in a batch, log 39; what a cut operation leaves, log 7; where the ordinals single out no
newest slot, log 9; that the slot of a cut write is chosen as it is cut off, log 42). -/
def Obligations.PorAndSoftResetBegin : Prop :=
  (∀ s : State, ∃ t, exec .por s = .next t ∧ resetBegun .por s t ∧
    t.ret = { sticky := false, resets := 0, latch := none }) ∧
  (∀ (inp : TickInputs) (p : BatchPoint) (s : State), s.clk.phase = .running →
    inp.cut = some { cause := .supply, point := p } →
    ∃ t, exec (.tickBatch inp) s = .next t ∧ resetBegun .por (abandonBatch inp p s) t ∧ t.pending = s.pending ∧
      t.ret = { sticky := false, resets := 0, latch := none }) ∧
  (∀ (inp : TickInputs) (s : State), s.clk.phase = .running →
    abandonBatch inp (.units 0) s = batchStart inp s ∧
    stageARuns inp (batchStart inp s) (abandonBatch inp (.records 0) s) ∧
    (inp.cut = none →
      ∃ t, exec (.tickBatch inp) s = .next t ∧ stageFRuns s.sup.state (abandonBatch inp .outputs s) t)) ∧
  ∀ (h : FrameHead) (s : State), executes .softReset h 0x00005A s = true →
    (selftestRunning s = false →
      ∃ t, exec (.softReset h 0x00005A) s = .next t ∧ resetBegun .soft s t ∧ t.ret = latchedRetained s ∧
        s.sup.state = .normal) ∧
    (selftestRunning s = true →
      ∃ t, exec (.softReset h 0x00005A) s = .next t ∧ commandRefused .selftestBusy h s t ∧ t.src = s.src)

/-- PIN_RESET by the length of the low level: below 2 µs none, from 10 µs on a complete reset that captures the latch, counts, and
keeps nonvolatile memory but for the operation it cuts off; in between one or the other (log 8); a power-on reset in progress
goes on. A pin reset that begins while a batch is in progress abandons it, and the latch captures what that batch has left by
then (R137, R139, R152, R161, R165, R166; the model's choices: logs 7, 9, 29, 39, 42). -/
def Obligations.PinResetByLength : Prop :=
  (∀ (n : Nat) (s : State), n < 2000 → exec (.pinReset n) s = .next s) ∧
  (∀ (n : Nat) (s : State), 10000 ≤ n → s.clk.phase ≠ .inReset .por →
    ∃ t, exec (.pinReset n) s = .next t ∧ resetBegun .pin s t ∧ t.ret = latchedRetained s) ∧
  (∀ (n : Nat) (s : State), 10000 ≤ n → s.clk.phase = .inReset .por → exec (.pinReset n) s = .next s) ∧
  (∀ (n : Nat) (s : State), 2000 ≤ n → n < 10000 →
    ∃ u, onlyParts [.free] s u ∧
      (exec (.pinReset n) s = .next u ∨ exec (.pinReset n) s = exec (.pinReset 10000) u)) ∧
  ∀ (inp : TickInputs) (p : BatchPoint) (s : State), s.clk.phase = .running →
    inp.cut = some { cause := .nrst, point := p } →
    ∃ t, exec (.tickBatch inp) s = .next t ∧ resetBegun .pin (abandonBatch inp p s) t ∧ t.pending = s.pending ∧
      t.ret = latchedRetained (abandonBatch inp p s)

/-- A reset ends with the start of the oscillator and a NO_PRIOR slot; a stable oscillator lets batches run; a stopped one lets
neither a batch nor a frame change anything but what SDO shows, which is zeros; a frame is ignored whole that completes in a
reset or for which nCS was asserted before the last reset had ended (R12, R20, R165, R167, R171; what SDO shows then: log 38). -/
def Obligations.ResetEndAndOscillator : Prop :=
  (∀ (k : ResetKind) (s : State), s.clk.phase = .inReset k →
    exec .resetEnd s = .next ((s.setClk { s.clk with phase := .starting }).setPort
      { s.port with slot := { status := globalStatus s, tag := 0, res := .noPrior, data := 0 } })) ∧
  (∀ s : State, s.clk.phase = .starting →
    exec .oscillatorStart s = .next (s.setClk { s.clk with phase := .running })) ∧
  (∀ s : State, s.clk.phase = .running →
    ∃ t, exec .mainOscillatorStop s = .next t ∧ t = s.setClk { s.clk with phase := .stopped } ∧
      (∀ inp, exec (.tickBatch inp) t = .next t) ∧
      ∀ start f, start ≠ .beforeResetEnd →
        exec (.rejCrc start f) t = .next (t.setPort { t.port with sdo := List.replicate 48 false })) ∧
  ∀ (start : FrameStart) (f : RawFrame) (bits : List Bool) (s : State),
    (start = .beforeResetEnd ∨ ∃ k, s.clk.phase = .inReset k) →
    exec (.rejCrc start f) s = .next s ∧ exec (.rejLength start bits) s = .next s

/-- A batch advances the tick counter by one and runs its stages in order, each taking every one of its units: the fault lines,
heartbeat channels, link, watchdog, comparators, clock monitor and S45 of Stage A with the copy of conditions, the 56 records
of Stage B, the dispatches of Stage C, the timers of Stage D, the outputs of Stage E and the reports of Stage F, the state at
its start deciding which of them run; beside that it leaves the port, the software sources, the selectors, the read buffer and
the queue alone, and after it the outputs, nATTN and nCRIT agree with the state (R1, R18, R24 to R29, R32 to R38, R43 to R47,
R53, R59, R61, R68 to R73, R77, R114, R118, R140 to R148, R171, R172). Without a running oscillator no batch runs. Rests on the
model's choices of logs 4 and 6 (rows as steps, when an operation completes), 18, 19, 22, 32 and 33. A batch that a reset
abandons is the matter of O3 and O4. -/
def Obligations.BatchAdvancesAndReports : Prop :=
  (∀ (inp : TickInputs) (s : State), s.clk.phase = .running → inp.cut = none →
    ∃ t, exec (.tickBatch inp) s = .next t ∧ t.clk.tick = s.clk.tick + 1 ∧ t.clk.phase = .running ∧
      t.port = { s.port with s45 := decide (4 ≤ s.port.consec.toNat), s45Detail := s.port.consec.setWidth 8 } ∧
      t.sw = s.sw ∧ t.sel = s.sel ∧ t.jrn.buf = s.jrn.buf ∧ t.pending = s.pending ∧
      t.out.level = commandedLevels t.prof.running.ep t.sup t.out.pair ∧ flagsCurrent t ∧ batchRuns inp s t) ∧
  ∀ (inp : TickInputs) (s : State), s.clk.phase ≠ .running → exec (.tickBatch inp) s = .next s

/-! ### Outputs, flags and records -/

/-- The table of R141 with the forms of R142, for every supervisor state, active plan, action and pair; nATTN and ATTN_SUM (R77);
nCRIT (R114); and the bits of the GLOBAL STATUS byte (R14). -/
def Obligations.OutputsAndFlagsByState : Prop :=
  (∀ (c : EpCfg) (u : Supervisor) (p : Pair),
    (∀ n : Fin 4, (commandedLevels c u p).getLsbD n.val =
      match u.state with
      | .init => false
      | .lockdown => false
      | .safe => !u.active.ssoMask.getLsbD n.val
      | .normal => true
      | .alert => true
      | .standby => true
      | .waking => true) ∧
    ((commandedLevels c u p).getLsbD 4, (commandedLevels c u p).getLsbD 5) =
      (if u.state = .init then (false, false)
      else match p, c.proto with
        | .reset, _ => (false, false)
        | .static, _ => (true, false)
        | .antiphase phaseA _ _, _ => (phaseA, !phaseA)
        | .fault, .static => (false, true)
        | .fault, .antiphase => (false, false)) ∧
    ((commandedLevels c u p).getLsbD 6 = false ↔
      u.state = .init ∨ u.state = .lockdown ∨ u.state = .safe ∧ ∃ stop, u.hostReset = .pulsing stop) ∧
    ((commandedLevels c u p).getLsbD 7 = false ↔
      u.state = .init ∨ u.state = .lockdown ∨ u.state = .safe ∧ u.powerCut = .cut)) ∧
  (∀ s : State,
    let latchedNotify : SrcId → Prop := fun i =>
      (vget s.src i).state ≠ .quiet ∧ (vget s.prof.running.desc i).notify = true
    ((computeAttn s).asserted = true ↔
      (∃ i, latchedNotify i) ∨
        s.prof.running.jrn.attnLevel ≠ 0 ∧ s.prof.running.jrn.attnLevel.toNat ≤ s.jrn.recs.length) ∧
    (∃ l : List SrcId, l.Nodup ∧ (∀ i, i ∈ l ↔ latchedNotify i) ∧ (computeAttn s).count = l.length) ∧
    (∀ i, (computeAttn s).lowest = some i ↔ latchedNotify i ∧ ∀ j, latchedNotify j → i.val ≤ j.val) ∧
    ((computeAttn s).lowest = none ↔ ∀ i, ¬ latchedNotify i)) ∧
  ∀ s : State,
    (critNow s = true ↔ s.ack.req ≠ none ∨ s.sup.state = .lockdown) ∧
    (globalStatus s).extractLsb' 5 3 =
      (match s.sup.state with
      | .init => 0
      | .normal => 1
      | .alert => 2
      | .safe => 3
      | .lockdown => 4
      | .standby => 5
      | .waking => 6) ∧
    ((globalStatus s).getLsbD 4 = s.attn.asserted) ∧ ((globalStatus s).getLsbD 3 = s.crit) ∧
    ((globalStatus s).getLsbD 2 = true ↔ ∃ due p, s.prof.session = .opn due p) ∧
    ((globalStatus s).getLsbD 1 = true ↔ s.jrn.recs ≠ []) ∧
    ((globalStatus s).getLsbD 0 = true ↔ 4 ≤ s.port.consec.toNat)

/-- The creation of a record: it takes the SEQ counter's value, the present tick and the episode, and the counter goes up by 1; below
32 records it is appended; into a full journal it is lost under KEEP_OLDEST, displaces the oldest unpinned record under KEEP_NEWEST,
and is lost there when all 32 are pinned, each count saturating at 255 (R127, R129, R130). -/
def Obligations.RecordCreation : Prop :=
  (∀ (b : RecBody) (s : State),
    let r : Rec := { seq := s.jrn.seq, tick := s.clk.tick, episode := s.sup.episode, body := b }
    let pinned : Rec → Prop := fun x =>
      (∃ y, x.body = .state y .safe) ∨ (∃ y, x.body = .state y .lockdown) ∨ ∃ n, x.body = .escalate n
    onlyParts [.jrn] s (writeRec b s) ∧
    (s.jrn.recs.length < 32 →
      (writeRec b s).jrn = { s.jrn with recs := s.jrn.recs ++ [r], seq := s.jrn.seq + 1 }) ∧
    (32 ≤ s.jrn.recs.length → s.prof.running.jrn.policy = .keepOldest →
      (writeRec b s).jrn = { s.jrn with seq := s.jrn.seq + 1, lost := satInc s.jrn.lost }) ∧
    (32 ≤ s.jrn.recs.length → s.prof.running.jrn.policy = .keepNewest → (∀ x ∈ s.jrn.recs, pinned x) →
      (writeRec b s).jrn = { s.jrn with seq := s.jrn.seq + 1, lost := satInc s.jrn.lost }) ∧
    ∀ (older : List Rec) (x : Rec) (newer : List Rec), 32 ≤ s.jrn.recs.length →
      s.prof.running.jrn.policy = .keepNewest → s.jrn.recs = older ++ x :: newer → (∀ y ∈ older, pinned y) → ¬ pinned x →
      (writeRec b s).jrn =
        { s.jrn with
          recs := older ++ newer ++ [r], seq := s.jrn.seq + 1, displaced := satInc s.jrn.displaced }) ∧
  ∀ n : Byte, (satInc n).toNat = min (n.toNat + 1) 255

/-- When a slot or a bank is read, it is judged by its own checks: a slot is EMPTY when erased, VALID when claim and body both pass, and
otherwise INVALID, with an ordinal exactly when its claim passes (R135); a bank is ERASED without its marker, VALID when its check code
matches its content, and otherwise DAMAGED (R152). Damage suffered since the last batch makes a VALID slot INVALID, with its ordinal
when only the body is hurt (R135), and a VALID bank DAMAGED (R162), and changes nothing else. The codes are free
functions of the content, and what damage there is comes with the batch: the model's choices (logs 34, 35). -/
def Obligations.StoredContentIsJudged : Prop :=
  (∀ x : ArchSlot,
    (readSlot x = .empty ↔ x.claim = none ∧ x.body = none) ∧
    (∀ o e, readSlot x = .valid o e ↔
      x.claim = some { ord := o, check := Config.claimCheck o } ∧ x.body = some { entry := e, code := Config.bodyCode e }) ∧
    (∀ o, claimOrd x = some o ↔ x.claim = some { ord := o, check := Config.claimCheck o }) ∧
    ∀ o, readSlot x = .invalid o → o = claimOrd x) ∧
  (∀ x : Bank,
    (readBank x = .erased ↔ x.marker = false) ∧
    ∀ g p, readBank x = .valid g p ↔
      x.marker = true ∧ x.gen = g ∧ x.content = some p ∧ x.code = Config.profileCode p) ∧
  (∀ (inp : TickInputs) (s : State), inp.damage = [] →
    batchStart inp s = s.setClk { s.clk with tick := s.clk.tick + 1 }) ∧
  (∀ (inp : TickInputs) (i : Fin 4) (o : Byte) (e : ArchEntry) (s : State), readSlot (vget s.arch.slots i) = .valid o e →
    (∀ flips t, flips ≠ 0 → t = batchStart { inp with damage := [.claim i flips] } s →
      onlySlotHurt i s t ∧ readSlot (vget t.arch.slots i) = .invalid none) ∧
    ∀ flips t, flips ≠ 0 → t = batchStart { inp with damage := [.body i flips] } s →
      onlySlotHurt i s t ∧ readSlot (vget t.arch.slots i) = .invalid (some o)) ∧
  ∀ (inp : TickInputs) (b : BankId) (flips g : Word) (p : Profile) (s t : State),
    readBank (bankOf b s.prof) = .valid g p → flips ≠ 0 → t = batchStart { inp with damage := [.code b flips] } s →
    onlyBankHurt b s t ∧ readBank (bankOf b t.prof) = .damaged

/-! ### What the port makes of frames -/

/-- What a frame is is its bytes: every row of a command is the frame of its code in the catalogue of section 1.4 with that tag and
argument, a row named by a rejection carries any frame, and 48 bits are the frame they spell (R3, R4, R5). That the rows carry
frames is the model's choice (log 3). -/
def Obligations.CommandRowsAreTheirFrames : Prop :=
  (∀ (h : FrameHead) (arg : BitVec 24) (s : State),
    exec (.nop h arg) s = exec (.rejCommand h 0x00 arg) s ∧
    exec (.clearSource h arg) s = exec (.rejCommand h 0x10 arg) s ∧
    exec (.inject h arg) s = exec (.rejCommand h 0x11 arg) s ∧
    exec (.raiseSw h arg) s = exec (.rejCommand h 0x12 arg) s ∧
    exec (.lowerSw h arg) s = exec (.rejCommand h 0x13 arg) s ∧
    exec (.purgeNode h arg) s = exec (.rejCommand h 0x14 arg) s ∧
    exec (.ackSafe h arg) s = exec (.rejCommand h 0x20 arg) s ∧
    exec (.releaseSafe h arg) s = exec (.rejCommand h 0x21 arg) s ∧
    exec (.service h arg) s = exec (.rejCommand h 0x28 arg) s ∧
    exec (.popJournal h arg) s = exec (.rejCommand h 0x30 arg) s ∧
    exec (.peekJournal h arg) s = exec (.rejCommand h 0x31 arg) s ∧
    exec (.openSession h arg) s = exec (.rejCommand h 0x38 arg) s ∧
    exec (.closeApply h arg) s = exec (.rejCommand h 0x39 arg) s ∧
    exec (.closeDiscard h arg) s = exec (.rejCommand h 0x3A arg) s ∧
    exec (.commitProfile h arg) s = exec (.rejCommand h 0x3B arg) s ∧
    exec (.resetCounts h arg) s = exec (.rejCommand h 0x3C arg) s ∧
    exec (.clearArchive h arg) s = exec (.rejCommand h 0x3D arg) s ∧
    exec (.runSelftest h arg) s = exec (.rejCommand h 0x40 arg) s ∧
    exec (.enterStandby h arg) s = exec (.rejCommand h 0x48 arg) s ∧
    exec (.wake h arg) s = exec (.rejCommand h 0x49 arg) s ∧
    exec (.softReset h arg) s = exec (.rejCommand h 0x4F arg) s) ∧
  (∀ (h : FrameHead) (addr : Byte) (data : Word) (s : State),
    exec (.writeReg h addr data) s = exec (.rejCommand h 0x02 (addr ++ data)) s ∧
    exec (.archSelWrite h data) s = exec (.rejCommand h 0x02 ((0x5A : Byte) ++ data)) s ∧
    exec (.tickLoRead h) s = exec (.rejCommand h 0x01 0x060000) s ∧
    exec (.tickHiRead h) s = exec (.rejCommand h 0x01 0x070000) s ∧
    (∀ ch : Fin 4, exec (.hbCaptRead h ch) s = exec (.rejCommand h 0x01 (0x240000 + BitVec.ofNat 24 (ch.val * 0x10000))) s) ∧
    exec (.linkStatRead h) s = exec (.rejCommand h 0x01 0x300000) s ∧
    exec (.linkCountRead h .errcnt) s = exec (.rejCommand h 0x01 0x310000) s ∧
    exec (.linkCountRead h .foreign) s = exec (.rejCommand h 0x01 0x320000) s ∧
    exec (.linkCountRead h .seqcnt) s = exec (.rejCommand h 0x01 0x330000) s ∧
    exec (.hportErrcntRead h) s = exec (.rejCommand h 0x01 0x610000) s) ∧
  (∀ (h : FrameHead) (code : Byte) (arg : BitVec 24) (s : State),
    exec (.rejTag h code arg) s = exec (.rejCommand h code arg) s ∧
    exec (.retransmission h code arg) s = exec (.rejCommand h code arg) s ∧
    exec (.rejCommand h code arg) s = exec (.rejCrc h.start (requestFrame code h.tag arg)) s) ∧
  (∀ (start : FrameStart) (f : RawFrame) (s : State), exec (.rejFormat start f) s = exec (.rejCrc start f) s) ∧
  ∀ (start : FrameStart) (bits : List Bool) (s : State), bits.length = 48 →
    exec (.rejLength start bits) s = exec (.rejCrc start (frameOfBits bits)) s

/-- R7: a frame of other than 48 bits is discarded, counted and answered with REJ_LENGTH, and SDO shows the slot and then zeros;
no bits are no frame (R3). R8: a wrong check code is counted and answered with REJ_CRC, a nonzero bit 4..0 of byte 1 is answered
with REJ_FORMAT and not counted; both leave the tag state and the stored result alone and answer the tag as received. -/
def Obligations.DamagedFramesDiscarded : Prop :=
  (∀ (start : FrameStart) (bits : List Bool) (s : State), portOpen start s = true → bits.length ≠ 0 → bits.length ≠ 48 →
    ∃ t, exec (.rejLength start bits) s = .next t ∧ onlyParts [.port] s t ∧
      t.port =
        { s.port with
          consec := satInc s.port.consec, errcnt := satInc s.port.errcnt, lastRej := some .rejLength
          slot := { status := globalStatus t, tag := 0, res := .rejLength, data := 0 }
          sdo := if start = .early then List.replicate bits.length false
            else (slotBits s.port.slot).take bits.length ++ List.replicate (bits.length - 48) false }) ∧
  (∀ (start : FrameStart) (s : State), exec (.rejLength start []) s = .next s) ∧
  (∀ (start : FrameStart) (f : RawFrame) (s : State), portOpen start s = true →
    f.b5 ≠ crc8 [f.b0, f.b1, f.b2, f.b3, f.b4] →
    ∃ t, exec (.rejCrc start f) s = .next t ∧ onlyParts [.port] s t ∧
      t.port =
        { s.port with
          consec := satInc s.port.consec, errcnt := satInc s.port.errcnt, lastRej := some .rejCrc
          slot := { status := globalStatus t, tag := f.b1.extractLsb' 5 3, res := .rejCrc, data := 0 }
          sdo := sdoBits start 48 s.port.slot }) ∧
  ∀ (start : FrameStart) (f : RawFrame) (s : State), portOpen start s = true →
    f.b5 = crc8 [f.b0, f.b1, f.b2, f.b3, f.b4] → f.b1.extractLsb' 0 5 ≠ 0 →
    ∃ t, exec (.rejFormat start f) s = .next t ∧ onlyParts [.port] s t ∧
      t.port =
        { s.port with
          lastRej := some .rejFormat
          slot := { status := globalStatus t, tag := f.b1.extractLsb' 5 3, res := .rejFormat, data := 0 }
          sdo := sdoBits start 48 s.port.slot }

/-- R11: a frame whose tag is out of sequence is counted and answered with REJ_TAG and the last accepted tag, which stays, as
does the stored result. -/
def Obligations.WrongTagAnswersLastTag : Prop :=
  ∀ (h : FrameHead) (code : Byte) (arg : BitVec 24) (s : State), portOpen h.start s = true → s.port.synced = true →
    h.tag ≠ s.port.lastTag → h.tag ≠ s.port.lastTag + 1 →
    ∃ t, exec (.rejTag h code arg) s = .next t ∧ onlyParts [.port] s t ∧
      t.port =
        { s.port with
          consec := satInc s.port.consec, errcnt := satInc s.port.errcnt, lastRej := some .rejTag
          slot := { status := globalStatus t, tag := h.tag, res := .rejTag, data := s.port.lastTag.setWidth 24 }
          sdo := sdoBits h.start 48 s.port.slot }

/-- R10: a frame with the last accepted tag is not executed, whatever its code and argument; it is answered with the stored
result and a fresh status byte, and changes nothing but HP_CONSEC (R18) and the slot. -/
def Obligations.RetransmissionNeverExecutes : Prop :=
  ∀ (h : FrameHead) (code : Byte) (arg : BitVec 24) (r : Stored) (s : State), portOpen h.start s = true →
    s.port.synced = true → h.tag = s.port.lastTag → s.port.stored = some r →
    ∃ t, exec (.retransmission h code arg) s = .next t ∧ onlyParts [.port] s t ∧
      t.port =
        { s.port with
          consec := 0
          slot := { status := globalStatus t, tag := r.tag, res := r.res, data := r.data }
          sdo := sdoBits h.start 48 s.port.slot }

/-- A frame accepted as new that fails at step 5, 6, 7 or 8 of R6, in that order, executes nothing: its rejection becomes the
stored result and it has consumed its tag (R6, R9, R15, R16, R17). -/
def Obligations.RejectedFrameConsumesTag : Prop :=
  ∀ (h : FrameHead) (code : Byte) (arg : BitVec 24) (r : Res) (s : State), portOpen h.start s = true →
    tagIsNew s h.tag = true →
    ((∀ c, code ≠ cmdCode c) ∧ r = .rejCommand ∨
      ∃ c, code = cmdCode c ∧
        (permitted c s.sup.state (sessionOpen s) = false ∧ r = .rejState ∨
          permitted c s.sup.state (sessionOpen s) = true ∧
            (argInRange c s.sel.page arg = false ∧ r = .rejArg ∨
              argInRange c s.sel.page arg = true ∧ accessAllowed c (sessionOpen s) arg = false ∧ r = .rejAccess))) →
    ∃ t, exec (.rejCommand h code arg) s = .next t ∧ onlyParts [.port] s t ∧
      t.port =
        { s.port with
          synced := true, lastTag := h.tag, consec := 0, lastRej := some r
          stored := some { tag := h.tag, res := r, data := 0 }
          slot := { status := globalStatus t, tag := h.tag, res := r, data := 0 }
          sdo := sdoBits h.start 48 s.port.slot }

/-- R21: NOP executes in every supervisor state, returns OK with data 0, advances the tag, and has no effect outside the port;
as an executed command it cancels a pending unlock step (R156). -/
def Obligations.NopTouchesOnlyThePort : Prop :=
  ∀ (h : FrameHead) (s : State), portOpen h.start s = true → tagIsNew s h.tag = true →
    ∃ t, exec (.nop h 0) s = .next t ∧ commandDone [] h .ok 0 s t ∧ unlockCancelled s t ∧
      (flagsCurrent s → t.attn = s.attn ∧ t.crit = s.crit)

/-! ### Reads and writes of registers -/

/-- TICK_LO captures the high half of the tick, which TICK_HI returns and releases; the read of HBn_CAPT returns the capture and releases a
FROZEN channel into ARMING, with no other side effect (R37, R59, R171, R177). -/
def Obligations.CapturesHeldAndReleased : Prop :=
  (∀ (h : FrameHead) (s : State), portOpen h.start s = true → tagIsNew s h.tag = true →
    (∃ t, exec (.tickLoRead h) s = .next t ∧
      commandDone [.clk] h .ok ((0x06 : Byte) ++ s.clk.tick.extractLsb' 0 16) s t ∧ unlockCancelled s t ∧
      t.clk = { s.clk with hiCapture := some (s.clk.tick.extractLsb' 16 16) }) ∧
    ∃ t, exec (.tickHiRead h) s = .next t ∧
      commandDone [.clk] h .ok ((0x07 : Byte) ++ s.clk.hiCapture.getD (s.clk.tick.extractLsb' 16 16)) s t ∧
      unlockCancelled s t ∧ t.clk = { s.clk with hiCapture := none }) ∧
  ∀ (h : FrameHead) (ch : Fin 4) (s : State), portOpen h.start s = true → tagIsNew s h.tag = true →
    ∃ t, exec (.hbCaptRead h ch) s = .next t ∧
      commandDone [.hb, .src] h .ok ((0x24 + BitVec.ofNat 8 ch.val) ++ (vget s.hb ch).capt) s t ∧
      unlockCancelled s t ∧ srcFollows s.src s t ∧
      vget t.hb ch = (if (vget s.hb ch).state = .frozen then { (vget s.hb ch) with state := .arming, counter := 0 }
        else vget s.hb ch) ∧
      ∀ m, m ≠ ch → vget t.hb m = vget s.hb m

/-- A read of any register of the map whose read has no side effect is OK, with the address and the register's value, and changes
nothing outside the port but what every executed command does; the frame has by then set HP_CONSEC to 0, which HPORT_STAT shows
(R9, R17, R18, R177, R180 to R182). LINK_STAT clears the overrun flag only, each count register of the link clears the counts it
holds, HPORT_ERRCNT clears its count, and each returns what stood there before (R19, R44, R51, R177). -/
def Obligations.RegisterReads : Prop :=
  (∀ (h : FrameHead) (addr : Byte) (s : State), portOpen h.start s = true → tagIsNew s h.tag = true →
    regAccess addr ≠ none →
    addr ∉ ([0x06, 0x07, 0x24, 0x25, 0x26, 0x27, 0x30, 0x31, 0x32, 0x33, 0x61] : List Byte) →
    ∃ t, exec (.rejCommand h 0x01 (addr ++ (0 : Word))) s = .next t ∧
      commandDone [] h .ok (addr ++ regValue (s.setPort { s.port with consec := 0 }) addr) s t ∧ unlockCancelled s t ∧
      (flagsCurrent s → t.attn = s.attn ∧ t.crit = s.crit)) ∧
  ∀ (h : FrameHead) (s : State), portOpen h.start s = true → tagIsNew s h.tag = true →
    (∃ t, exec (.linkStatRead h) s = .next t ∧
      commandDone [.link] h .ok ((0x30 : Byte) ++ viewLinkStat s.link) s t ∧ unlockCancelled s t ∧
      t.link = { s.link with overrun := false }) ∧
    (∃ t, exec (.linkCountRead h .errcnt) s = .next t ∧
      commandDone [.link] h .ok
        ((0x31 : Byte) ++ (s.link.malformed ++ s.link.crc ++ s.link.truncation ++ s.link.framing)) s t ∧
      unlockCancelled s t ∧ t.link = { s.link with framing := 0, truncation := 0, crc := 0, malformed := 0 }) ∧
    (∃ t, exec (.linkCountRead h .foreign) s = .next t ∧
      commandDone [.link] h .ok ((0x32 : Byte) ++ s.link.foreign) s t ∧ unlockCancelled s t ∧
      t.link = { s.link with foreign := 0 }) ∧
    (∃ t, exec (.linkCountRead h .seqcnt) s = .next t ∧
      commandDone [.link] h .ok ((0x33 : Byte) ++ (s.link.dup ++ s.link.gap)) s t ∧ unlockCancelled s t ∧
      t.link = { s.link with dup := 0, gap := 0 }) ∧
    ∃ t, exec (.hportErrcntRead h) s = .next t ∧
      commandDone [] h .ok ((0x61 : Byte) ++ s.port.errcnt) (s.setPort { s.port with errcnt := 0 }) t ∧
      unlockCancelled s t

/-- A write to a selector or to PAGE_SEL changes only that selection, at once; a write of k to ARCH_SEL also takes the snapshot of
the slot k places back in ring order from the newest slot whose claim passes, or from slot 0 when none passes (R138, R178, R179).
Where the ordinals single out no newest slot, R138 leaves the slot open and the model counts back from a free choice (log 9). -/
def Obligations.SelectorWritesSelect : Prop :=
  ∀ (h : FrameHead) (data : Word) (s : State),
    (∀ addr : Byte, addr ∈ ([0x0F, 0x10, 0x35, 0x38, 0x80, 0x84, 0x88, 0x8C] : List Byte) →
      executes .writeReg h (addr ++ data) s = true →
      ∃ t, exec (.writeReg h addr data) s = .next t ∧ commandDone [.sel] h .ok 0 s t ∧ unlockCancelled s t ∧
        regValue t addr = data ∧ (addr ≠ 0x0F → t.sel.page = s.sel.page) ∧
        (addr ≠ 0x10 → t.sel.srcIndex = s.sel.srcIndex) ∧ (addr ≠ 0x35 → t.sel.nodeSel = s.sel.nodeSel) ∧
        (addr ≠ 0x38 → t.sel.lcSel = s.sel.lcSel) ∧ (addr ≠ 0x80 → t.sel.edtIndex = s.sel.edtIndex) ∧
        (addr ≠ 0x84 → t.sel.planIndex = s.sel.planIndex) ∧ (addr ≠ 0x88 → t.sel.flSel = s.sel.flSel) ∧
        (addr ≠ 0x8C → t.sel.hbSel = s.sel.hbSel) ∧ t.sel.archSel = s.sel.archSel) ∧
    (executes .writeReg h ((0x5A : Byte) ++ data) s = true →
      ∃ t, exec (.archSelWrite h data) s = .next t ∧ commandDone [.sel, .arch] h .ok 0 s t ∧ unlockCancelled s t ∧
        t.sel = { s.sel with archSel := t.sel.archSel } ∧ t.sel.archSel.val = data.toNat ∧
        t.arch = { s.arch with view := t.arch.view } ∧
        (∀ n a, newestWith s.arch.slots n a → (∀ m b, newestWith s.arch.slots m b → m = n) →
          t.arch.view = readSlot (vget s.arch.slots (n - t.sel.archSel))) ∧
        ((∀ j, claimOrd (vget s.arch.slots j) = none) →
          t.arch.view = readSlot (vget s.arch.slots (0 - t.sel.archSel))) ∧
        ∃ n, t.arch.view = readSlot (vget s.arch.slots (n - t.sel.archSel)))

/-- A write to a configuration register changes only the staging copy of the open session, in the fields of that register or page,
and a read of the register then returns the value written (R155, R178, R179, R182). -/
def Obligations.StagingWriteReadsBack : Prop :=
  ∀ (h : FrameHead) (addr : Byte) (data : Word) (due : Tick) (p : Profile) (s : State),
    regAccess addr = some .cs → s.prof.session = .opn due p → executes .writeReg h (addr ++ data) s = true →
    ∃ t, exec (.writeReg h addr data) s = .next t ∧ commandDone [] h .ok 0 s t ∧ t.src = s.src ∧
      t.prof = { s.prof with session := .opn due (writeCs addr s.sel data p) } ∧ regValue t addr = data ∧
      ∀ addr', regAccess addr' = some .cs → addr' ≠ addr → regValue t addr' = regValue s addr'

/-! ### Host actions on sources and on the link -/

/-- R74: a QUIET source loses its injection only; a latched source with its condition present is refused; any other latched source
returns to QUIET with a CLEAR record and leaves the Alarm List, which may end ALERT (R86). -/
def Obligations.ClearSourceByLatch : Prop :=
  ∀ (h : FrameHead) (n : SrcId) (s : State), executes .clearSource h (BitVec.ofNat 24 n.val) s = true →
    ((vget s.src n).state = .quiet →
      ∃ t, exec (.clearSource h (BitVec.ofNat 24 n.val)) s = .next t ∧ commandDone [.src] h .ok 0 s t ∧
        unlockCancelled s t ∧ t.src = vset s.src n { (vget s.src n) with inj := false }) ∧
    ((vget s.src n).state ≠ .quiet → (vget s.src n).cond = true →
      ∃ t, exec (.clearSource h (BitVec.ofNat 24 n.val)) s = .next t ∧ commandRefused .conditionPresent h s t) ∧
    ((vget s.src n).state ≠ .quiet → (vget s.src n).cond = false →
      ∃ t, exec (.clearSource h (BitVec.ofNat 24 n.val)) s = .next t ∧
        commandDone [.src, .sup, .jrn, .ack] h .ok (if (vget s.src n).state = .active then 1 else 2) s t ∧
        unlockCancelled s t ∧ srcFollows (vset s.src n { (vget s.src n) with inj := false, state := .quiet }) s t ∧
        t.sup.alarms = s.sup.alarms.filter (fun a => !(a.src == n)) ∧
        if s.sup.state = .alert ∧ s.sup.alarms ≠ [] ∧ t.sup.alarms = [] then
          t.sup = { s.sup with alarms := [], state := .normal, first := none } ∧
            t.ack = { s.ack with level := 0 } ∧ journaled [.clear n, .state .alert .normal] s t
        else t.sup = { s.sup with alarms := t.sup.alarms } ∧ t.ack = s.ack ∧ journaled [.clear n] s t)

/-- INJECT sets INJ of an enabled source and is refused for a disabled one; RAISE_SW and LOWER_SW set and remove the condition of one
software source (R59, R75, R76). -/
def Obligations.InjectAndSoftwareSources : Prop :=
  (∀ (h : FrameHead) (n : SrcId) (s : State), executes .inject h (BitVec.ofNat 24 n.val) s = true →
    ∃ t, exec (.inject h (BitVec.ofNat 24 n.val)) s = .next t ∧
      if (vget s.prof.running.desc n).enable then
        commandDone [.src] h .ok 0 s t ∧ unlockCancelled s t ∧
          t.src = vset s.src n { (vget s.src n) with inj := true }
      else commandRefused .disabled h s t) ∧
  (∀ (h : FrameHead) (n : Fin 4) (s : State), executes .raiseSw h (BitVec.ofNat 24 n.val) s = true →
    ∃ t, exec (.raiseSw h (BitVec.ofNat 24 n.val)) s = .next t ∧ commandDone [.sw, .src] h .ok 0 s t ∧
      unlockCancelled s t ∧ srcFollows s.src s t ∧ t.sw.getLsbD n.val = true ∧
      ∀ m : Fin 4, m ≠ n → t.sw.getLsbD m.val = s.sw.getLsbD m.val) ∧
  ∀ (h : FrameHead) (n : Fin 4) (s : State), executes .lowerSw h (BitVec.ofNat 24 n.val) s = true →
    ∃ t, exec (.lowerSw h (BitVec.ofNat 24 n.val)) s = .next t ∧ commandDone [.sw, .src] h .ok 0 s t ∧
      unlockCancelled s t ∧ srcFollows s.src s t ∧ t.sw.getLsbD n.val = false ∧
      ∀ m : Fin 4, m ≠ n → t.sw.getLsbD m.val = s.sw.getLsbD m.val

/-- R50: PURGE_NODE of a SILENT node removes it from every code set, empties the record of each set that becomes empty, and returns
the mask of the sets it was in; of any other node it is refused. -/
def Obligations.PurgeRemovesSilentNode : Prop :=
  ∀ (h : FrameHead) (n : Fin 8) (s : State), executes .purgeNode h (BitVec.ofNat 24 n.val) s = true →
    ((vget s.link.nodes n).nstate ≠ .silent →
      ∃ t, exec (.purgeNode h (BitVec.ofNat 24 n.val)) s = .next t ∧ commandRefused .nodeNotSilent h s t) ∧
    ((vget s.link.nodes n).nstate = .silent →
      ∃ t, exec (.purgeNode h (BitVec.ofNat 24 n.val)) s = .next t ∧
        (∃ mask : BitVec 16, commandDone [.link, .src] h .ok ((0 : Byte) ++ mask) s t ∧
          ∀ k : Fin 16, mask.getLsbD k.val = (vget s.link.sets k).getLsbD n.val) ∧
        unlockCancelled s t ∧ srcFollows s.src s t ∧
        t.link = { s.link with sets := t.link.sets, last := t.link.last } ∧
        ∀ k : Fin 16,
          vget t.link.sets k = (vget s.link.sets k) &&& ~~~(BitVec.twoPow 8 n.val) ∧
          vget t.link.last k =
            if (vget s.link.sets k).getLsbD n.val = true ∧ vget t.link.sets k = 0 then none else vget s.link.last k)

/-! ### Acknowledgement and release -/

/-- R103 and the first bad token of R104: without a request ACK_SAFE is refused; the right token ends the request with an ACK record;
a first wrong token only counts. -/
def Obligations.AckSafeByToken : Prop :=
  ∀ (h : FrameHead) (tok : Byte) (s : State), executes .ackSafe h (tok.setWidth 24) s = true →
    (s.ack.req = none →
      ∃ t, exec (.ackSafe h (tok.setWidth 24)) s = .next t ∧ commandRefused .noAckPending h s t) ∧
    ∀ r : AckReq, s.ack.req = some r →
      (tok = r.token →
        ∃ t, exec (.ackSafe h (tok.setWidth 24)) s = .next t ∧ commandDone [.ack, .jrn, .src] h .ok 0 s t ∧
          unlockCancelled s t ∧ srcFollows s.src s t ∧ t.ack = { s.ack with req := none } ∧ journaled [.ack] s t) ∧
      (tok ≠ r.token → r.bad = false →
        ∃ t, exec (.ackSafe h (tok.setWidth 24)) s = .next t ∧ commandDone [.ack] h .badToken 0 s t ∧
          unlockCancelled s t ∧ t.ack = { s.ack with req := some { r with bad := true } })

/-- The second bad token of a request is answered BAD_TOKEN and performs an escalation step within the command (R104, R106, R107,
R108, R111). -/
def Obligations.SecondBadTokenEscalates : Prop :=
  ∀ (h : FrameHead) (tok : Byte) (r : AckReq) (s : State), executes .ackSafe h (tok.setWidth 24) s = true →
    s.ack.req = some r → tok ≠ r.token → r.bad = true →
    ∃ t, exec (.ackSafe h (tok.setWidth 24)) s = .next t ∧ answered h .badToken 0 s t ∧ flagsCurrent t ∧
      srcFollows s.src s t ∧ escalated s t ∧ (levelPerformed s ≠ 3 → unlockCancelled s t)

/-- RELEASE_SAFE is refused with the first of the five reasons that holds, and otherwise releases to NORMAL, ending the episode and
returning the level to 0 (R96, R97, R110). -/
def Obligations.ReleaseSafeInOrder : Prop :=
  ∀ (h : FrameHead) (s : State), executes .releaseSafe h 0 s = true →
    ∃ t, exec (.releaseSafe h 0) s = .next t ∧
      if s.ack.req ≠ none then commandRefused .ackPending h s t
      else if s.sup.dwell ≠ none then commandRefused .dwellRunning h s t
      else if s.sup.hostReset ≠ .idle ∨ (∃ d, s.sup.powerCut = .delaying d) then commandRefused .actionPending h s t
      else if s.out.epMin ≠ none then commandRefused .epMinRunning h s t
      else if ∃ i, (vget s.src i).state ≠ .quiet ∧
          ((vget s.src i).eff = some .alarm ∨ (vget s.src i).eff = some .critical) then
        commandRefused .sourcesLatched h s t
      else
        commandDone [.sup, .ack, .jrn, .src] h .ok 0 s t ∧ unlockCancelled s t ∧ srcFollows s.src s t ∧
          t.sup = { s.sup with
            state := .normal, active := emptyPlan, dwell := none, hostReset := .idle, powerCut := .idle,
            cause := none, first := none } ∧
          t.ack = { s.ack with level := 0 } ∧ journaled [.state s.sup.state .normal] s t

/-! ### The watchdog -/

/-- R117 with R116 and R119: SERVICE by phase and answer. -/
def Obligations.ServiceByPhase : Prop :=
  ∀ (h : FrameHead) (ans : Byte) (s : State), executes .service h (ans.setWidth 24) s = true →
    ∃ t, exec (.service h (ans.setWidth 24)) s = .next t ∧
      (s.wd.phase = .off ∨ s.wd.phase = .held → commandRefused .wdNotRunning h s t) ∧
      (s.wd.phase ≠ .off → s.wd.phase ≠ .held →
        commandDone [.wd, .src] h .ok
          ((wdPhaseCode t.wd.phase).setWidth 8 ++ t.wd.viol.setWidth 8 ++ (t.port.slot.data.extractLsb' 0 8)) s t ∧
        unlockCancelled s t ∧ srcFollows s.src s t ∧ t.wd.challenge = nextChallenge s.wd.challenge) ∧
      (∀ due, s.wd.phase = .initial due →
        if ans = s.wd.challenge ^^^ s.prof.running.wd.mask then
          t.wd.phase = .closed (addTicks s.now (msTicks s.prof.running.wd.closed)) ∧ t.wd.viol = s.wd.viol ∧
            t.wd.last = s.wd.last ∧ t.port.slot.data.extractLsb' 0 8 = 1
        else
          t.wd.phase = .initial (addTicks s.now (tenMsTicks s.prof.running.wd.initial)) ∧
            t.wd.viol = satInc s.wd.viol ∧ t.wd.last = .wrong ∧ t.port.slot.data.extractLsb' 0 8 = 3) ∧
      (∀ due, s.wd.phase = .closed due →
        t.wd.phase = .closed (addTicks s.now (msTicks s.prof.running.wd.closed)) ∧ t.wd.viol = satInc s.wd.viol ∧
          t.wd.last = .early ∧ t.port.slot.data.extractLsb' 0 8 = 2) ∧
      ∀ due, s.wd.phase = .opn due →
        t.wd.phase = .closed (addTicks s.now (msTicks s.prof.running.wd.closed)) ∧
          if ans = s.wd.challenge ^^^ s.prof.running.wd.mask then
            t.wd.viol = satDec s.wd.viol ∧ t.wd.last = s.wd.last ∧ t.port.slot.data.extractLsb' 0 8 = 0
          else
            t.wd.viol = satInc s.wd.viol ∧ t.wd.last = .wrong ∧ t.port.slot.data.extractLsb' 0 8 = 3

/-! ### The journal and the archive -/

/-- POP_JOURNAL and PEEK_JOURNAL on an empty and on a filled journal, with the LOST marker that a pop appends (R131, R132). -/
def Obligations.PopAndPeekJournal : Prop :=
  (∀ (h : FrameHead) (s : State), s.jrn.recs = [] →
    (executes .popJournal h 0 s = true →
      ∃ t, exec (.popJournal h 0) s = .next t ∧ commandDone [] h .empty 0 s t ∧ unlockCancelled s t) ∧
    (executes .peekJournal h 0 s = true →
      ∃ t, exec (.peekJournal h 0) s = .next t ∧ commandDone [] h .empty 0 s t ∧ unlockCancelled s t)) ∧
  ∀ (h : FrameHead) (r : Rec) (rest : List Rec) (s : State), s.jrn.recs = r :: rest → s.jrn.recs.length ≤ 32 →
    (executes .peekJournal h 0 s = true →
      ∃ t, exec (.peekJournal h 0) s = .next t ∧
        commandDone [.jrn] h .ok (BitVec.ofNat 8 s.jrn.recs.length ++ r.seq) s t ∧ unlockCancelled s t ∧
        t.jrn = { s.jrn with buf := some r }) ∧
    (executes .popJournal h 0 s = true →
      ∃ t, exec (.popJournal h 0) s = .next t ∧
        commandDone [.jrn, .src] h .ok (BitVec.ofNat 8 t.jrn.recs.length ++ r.seq) s t ∧ unlockCancelled s t ∧
        srcFollows s.src s t ∧
        t.jrn =
          if s.jrn.lost = 0 then { s.jrn with recs := rest, buf := some r }
          else
            { s.jrn with
              recs := rest ++
                [{ seq := s.jrn.seq, tick := s.clk.tick, episode := s.sup.episode, body := .lost s.jrn.lost }]
              seq := s.jrn.seq + 1, lost := 0, buf := some r })

/-- CLEAR_ARCHIVE requests one erasure and no second one (R139, R164); RUN_SELFTEST starts step ST1, due 8 ticks later, or is
refused while a run is in progress (R169, R170). -/
def Obligations.ClearArchiveAndRunSelftestBegin : Prop :=
  (∀ (h : FrameHead) (s : State), NvInv s → executes .clearArchive h 0 s = true →
    ∃ t, exec (.clearArchive h 0) s = .next t ∧ commandDone [.nv] h .ok 0 s t ∧ t.prof = s.prof ∧ t.src = s.src ∧
      (nvHolds .erase s → t.nv = s.nv) ∧ (¬ nvHolds .erase s → t.nv = nvAsked .erase s)) ∧
  ∀ (h : FrameHead) (s : State), executes .runSelftest h 0 s = true →
    ∃ t, exec (.runSelftest h 0) s = .next t ∧
      if selftestRunning s then commandRefused .selftestBusy h s t
      else
        commandDone [.st] h .ok 0 s t ∧ unlockCancelled s t ∧
          t.st = { s.st with result := .running 1 (addTicks s.now 8) }

/-! ### Sessions -/

/-- R156 and R157: the two unlock steps, what refuses them, and what opening does. -/
def Obligations.OpenSessionInTwoSteps : Prop :=
  ∀ (h : FrameHead) (v : Byte) (s : State), executes .openSession h (v.setWidth 24) s = true →
    ∃ t, exec (.openSession h (v.setWidth 24)) s = .next t ∧
      if s.prof.running.profLock then commandDone [] h .locked 0 s t ∧ t.prof = s.prof
      else
        match s.prof.session with
        | .opn _ _ => commandDone [] h .refused (argOf (reasonCode .unlockSequence) 0 0) s t ∧ t.prof = s.prof
        | .closed =>
          if v = 0xC3 then
            commandDone [] h .ok 1 s t ∧ t.prof = { s.prof with session := .unlocking (addTicks s.now 100) }
          else commandDone [] h .refused (argOf (reasonCode .unlockSequence) 0 0) s t ∧ t.prof = s.prof
        | .unlocking _ =>
          if v = 0x3C then
            commandDone [.jrn, .st, .src] h .ok 2 s t ∧ srcFollows s.src s t ∧
              t.prof = { s.prof with session := .opn (addTicks s.now 50000) s.prof.running } ∧
              journaled [.session .opened] s t ∧
              t.st = if selftestRunning s then { s.st with result := .aborted } else s.st
          else
            commandDone [] h .refused (argOf (reasonCode .unlockSequence) 0 0) s t ∧
              t.prof = { s.prof with session := .closed }

/-- R158: CLOSE_APPLY is refused with the first reason that holds; otherwise the staging copy becomes running, the default flag is
cleared, the session closes with an APPLY record, and every block adjusts by its own rule (R31, R39, R54, R55, R65, R86, R123,
R144). -/
def Obligations.CloseApplyMakesStagingRunning : Prop :=
  ∀ (h : FrameHead) (due : Tick) (p : Profile) (s : State), s.prof.session = .opn due p →
    executes .closeApply h 0 s = true →
    ∃ t, exec (.closeApply h 0) s = .next t ∧
      if s.prof.commit = .busy then commandRefused .commitBusy h s t
      else if badHbWindow p then commandRefused .badHbWindow h s t
      else if badAlarmTime p then commandRefused .badAlarmTime h s t
      else
        commandDone [.fl, .hb, .link, .src, .wd, .out, .sup, .ack, .jrn] h .ok 0 s t ∧
          t.prof = { s.prof with running := p, coded := p, dflt := false, session := .closed } ∧
          srcFollows (recomputePromoted p s.src) s t ∧
          linesApplied s.prof.running p s t ∧ channelsApplied s.prof.running p s t ∧
          linkApplied s.prof.running.link p.link s.link t.link ∧ watchdogApplied s.prof.running.wd p.wd s t ∧
          t.out = { s.out with pair := t.out.pair } ∧
          (∀ ph d pend, s.out.pair = .antiphase ph d pend →
            t.out.pair = .antiphase ph d (decide (p.ep.proto = .static))) ∧
          ((∀ ph d pend, s.out.pair ≠ .antiphase ph d pend) → t.out.pair = s.out.pair) ∧
          t.sup.alarms = s.sup.alarms.filter (fun a => (vget p.desc a.src).enable) ∧
          if s.sup.state = .alert ∧ s.sup.alarms ≠ [] ∧ t.sup.alarms = [] then
            t.sup = { s.sup with alarms := [], state := .normal, first := none } ∧
              t.ack = { s.ack with level := 0 } ∧
              journaled [.session .apply, .state .alert .normal] (s.setProf t.prof) t
          else
            t.sup = { s.sup with alarms := t.sup.alarms } ∧ t.ack = s.ack ∧
              journaled [.session .apply] (s.setProf t.prof) t

/-- CLOSE_DISCARD drops the staging copy with a DISCARD record; COMMIT_PROFILE is refused as an APPLY would be, and otherwise requests a
commit of the staging copy to the bank that is not current, with the next generation, and the status becomes BUSY; a commit that
begins at once removes its bank's marker, so that the bank reads ERASED from then on, which is the model's reading of R152 and
R160 (log 26) (R152, R159, R160, R164). -/
def Obligations.DiscardAndCommitOfASession : Prop :=
  (∀ (h : FrameHead) (s : State), executes .closeDiscard h 0 s = true →
    ∃ t, exec (.closeDiscard h 0) s = .next t ∧
      if s.prof.commit = .busy then commandRefused .commitBusy h s t
      else
        commandDone [.jrn, .src] h .ok 0 s t ∧ t.prof = { s.prof with session := .closed } ∧ srcFollows s.src s t ∧
          journaled [.session .discard] s t) ∧
  ∀ (h : FrameHead) (due : Tick) (p : Profile) (s : State), NvInv s → s.prof.session = .opn due p →
    executes .commitProfile h 0 s = true →
    ∃ t, exec (.commitProfile h 0) s = .next t ∧
      if s.prof.commit = .busy then commandRefused .commitBusy h s t
      else if badHbWindow p then commandRefused .badHbWindow h s t
      else if badAlarmTime p then commandRefused .badAlarmTime h s t
      else
        let b : BankId := if s.prof.curBank = some .bankA then .bankB else .bankA
        commandDone [.nv] h .ok ((if b = .bankA then (0 : Byte) else 1) ++ (s.prof.gen + 1)) s t ∧ t.src = s.src ∧
          t.nv = nvAsked (.commit b (s.prof.gen + 1) p) s ∧
          t.prof =
            if s.nv.cur = none then removeMarker b { s.prof with commit := .busy }
            else { s.prof with commit := .busy }

/-- R163: RESET_COUNTS executes only in a session, sets every COUNT to 0 and so every PROMOTED to no, and changes nothing else. -/
def Obligations.ResetCountsClearsCounts : Prop :=
  (∀ (h : FrameHead) (s : State), executes .resetCounts h 0 s = true →
    ∃ t, exec (.resetCounts h 0) s = .next t ∧ commandDone [.src] h .ok 0 s t ∧ t.prof = s.prof ∧
      ∀ i, vget t.src i = { (vget s.src i) with count := 0, promoted := false }) ∧
  ∀ (h : FrameHead) (s : State), portOpen h.start s = true → tagIsNew s h.tag = true → sessionOpen s = false →
    ∃ t, exec (.resetCounts h 0) s = .next t ∧ onlyParts [.port] s t ∧ t.port.slot.res = .rejState

/-! ### Self-test, STANDBY and WAKING by command -/

/-- ENTER_STANDBY is refused with the first of its three reasons, and otherwise stops each block as its chapter says; WAKE begins
WAKING, due 20 ticks later (R30, R39, R57, R122, R173, R174). That STANDBY begins with no wake request is the model's reading
(log 31); that a receiver which stops receiving keeps whether LRX has been idle for 2 byte-times is read from R57 (log 40). -/
def Obligations.StandbyAndWakeCommands : Prop :=
  (∀ (h : FrameHead) (s : State), executes .enterStandby h 0 s = true →
    ∃ t, exec (.enterStandby h 0) s = .next t ∧
      if selftestRunning s then commandRefused .selftestBusy h s t
      else if sessionOpen s then commandRefused .sessionOpen h s t
      else if severeLatched s then commandRefused .sourcesLatched h s t
      else
        commandDone [.sup, .jrn, .fl, .hb, .wd, .link, .clk, .src] h .ok 0 s t ∧ unlockCancelled s t ∧
          srcFollows s.src s t ∧ t.sup = { s.sup with state := .standby } ∧
          journaled [.state .normal .standby] s t ∧ t.wd = wdHold s.wd ∧
          (∀ i, vget t.fl i = if (vget s.prof.running.fl i).wake then vget s.fl i else resetFl) ∧
          (∀ i, vget t.hb i = { (vget s.hb i) with state := .disarmed, counter := 0, ref := none }) ∧
          (s.prof.running.link.enable = false → t.link = s.link) ∧
          (s.prof.running.link.enable = true →
            ∃ idle, (s.link.rx = .ready → idle = true) ∧ (receives s.link.rx = true → s.link.rx ≠ .ready → idle = false) ∧
              (∀ b, s.link.rx = .off b ∨ s.link.rx = .wakeWatch b → idle = b) ∧
              t.link = { s.link with
                rx := if s.prof.running.link.wake then .wakeWatch idle else .off idle, suspended := true }) ∧
          t.clk = { s.clk with wakeReq := false }) ∧
  ∀ (h : FrameHead) (s : State), executes .wake h 0 s = true →
    ∃ t, exec (.wake h 0) s = .next t ∧ commandDone [.sup, .jrn, .clk, .link, .src] h .ok 0 s t ∧
      unlockCancelled s t ∧ srcFollows s.src s t ∧ t.sup = { s.sup with state := .waking } ∧
      journaled [.state .standby .waking] s t ∧
      t.clk = { s.clk with wakeReq := false, wakingDue := some (addTicks s.now 20) } ∧
      t.link = { s.link with pendingTx := none }

/-! ### Steps of a batch: the units of Stage A -/

/-- The sample that completes a qualification makes the condition present, as ASSERTED or SPENT by mode, and asks for a wake in STANDBY;
the sample that completes a release makes the unit INACTIVE (R25, R26, R27, R29, R30). That the condition is present also where this
sample's Stage A clears a seen pulse hold, of which R28 says that the condition becomes absent, is the model's reading: the hold
is cleared first, and the new qualification then sets its own (log 32). -/
def Obligations.LineQualifiesAndReleases : Prop :=
  (∀ (n : Fin 16) (s : State), s.clk.phase = .running → flSampled s.sup.state (vget s.prof.running.fl n) = true →
    ((vget s.fl n).state = .inactive ∧ (vget s.prof.running.fl n).filt = 0 ∨
      (vget s.fl n).state = .qualifying ∧ (vget s.prof.running.fl n).filt.toNat ≤ (vget s.fl n).count) →
    ∃ t, exec (.qualification n) s = .next t ∧ onlyParts [.fl, .clk] s t ∧
      (vget t.fl n).state = (if (vget s.prof.running.fl n).mode = .level then .asserted else .spent) ∧
      (vget t.fl n).count = 0 ∧ (vget t.fl n).level = (vget s.prof.running.fl n).activeHigh ∧
      flCond (vget t.fl n) = true ∧
      ((vget s.fl n).hold = .none → (vget t.fl n).detail = flDetail (vget s.prof.running.fl n)) ∧
      (∀ m, m ≠ n → vget t.fl m = vget s.fl m) ∧
      t.clk = if s.sup.state = .standby then { s.clk with wakeReq := true } else s.clk) ∧
  ∀ (n : Fin 16) (s : State), s.clk.phase = .running → flSampled s.sup.state (vget s.prof.running.fl n) = true →
    ((vget s.fl n).state = .asserted ∧ (vget s.prof.running.fl n).filt = 0 ∨
      (vget s.fl n).state = .releasing ∧ (vget s.prof.running.fl n).filt.toNat ≤ (vget s.fl n).count) →
    ∃ t, exec (.lineRelease n) s = .next t ∧ onlyParts [.fl] s t ∧ (vget t.fl n).state = .inactive ∧
      (vget t.fl n).count = 0 ∧ (vget t.fl n).level = !(vget s.prof.running.fl n).activeHigh ∧
      ((vget s.fl n).hold = .none → flCond (vget t.fl n) = false) ∧ ∀ m, m ≠ n → vget t.fl m = vget s.fl m

/-- A RUNNING channel whose counter reaches MAX without a counted edge freezes with LATE (R36, R38); the end of a window of the reference
judges its count, good from 94 to 106, and the 200th batch without one makes the reference missing (R172). That the batch that
sees a window's end is the first of the next window, and that the count starts again at 0 after a missing reference, is the
model's reading (log 18). -/
def Obligations.LateHeartbeatAndClockMonitor : Prop :=
  (∀ (n : Fin 4) (s : State), s.clk.phase = .running → (vget s.hb n).state = .running →
    (vget s.prof.running.hb n).max.toNat ≤ ((vget s.hb n).counter + 1).toNat →
    ∃ t, exec (.heartbeatLate n) s = .next t ∧ onlyParts [.hb] s t ∧ (∀ m, m ≠ n → vget t.hb m = vget s.hb m) ∧
      (vget t.hb n).state = .frozen ∧ (vget t.hb n).counter = 0 ∧
      (vget t.hb n).capt = (vget s.prof.running.hb n).max ∧ (vget t.hb n).viol = .late ∧
      (vget t.hb n).detail.toNat = 128 + min (vget s.prof.running.hb n).max.toNat 127) ∧
  (∀ s : State, s.clk.phase = .running →
    ∃ t, exec .windowEvaluation s = .next t ∧
      t = s.setClk { s.clk with
        winCount := 1
        monCond := if 94 ≤ s.clk.winCount ∧ s.clk.winCount ≤ 106 then none
          else some (BitVec.ofNat 8 (min s.clk.winCount 254)) }) ∧
  ∀ s : State, s.clk.phase = .running → 199 ≤ s.clk.winCount →
    ∃ t, exec .missingReference s = .next t ∧ t = s.setClk { s.clk with winCount := 0, monCond := some 255 }

/-- A watched node whose SILENCE reaches LINK_TIMEOUT becomes SILENT, and nothing else of the link changes; the beacon timer at
BEACON_PERIOD hands a request for the present state, replacing any pending one (R47, R53). -/
def Obligations.SilenceAndBeaconTimers : Prop :=
  (∀ (n : Fin 8) (s : State), s.clk.phase = .running → linkOperates s.prof.running.link s.sup.state = true →
    watched s.prof.running.link n = true → (vget s.link.nodes n).nstate ≠ .silent →
    s.prof.running.link.timeout.toNat * 100 ≤ (vget s.link.nodes n).silence + 1 →
    ∃ t, exec (.silent n) s = .next t ∧ onlyParts [.link] s t ∧ t.link = { s.link with nodes := t.link.nodes } ∧
      vget t.link.nodes n =
        { (vget s.link.nodes n) with nstate := .silent, silence := (vget s.link.nodes n).silence + 1 } ∧
      ∀ m, m ≠ n → vget t.link.nodes m = vget s.link.nodes m) ∧
  ∀ s : State, s.clk.phase = .running → linkOperates s.prof.running.link s.sup.state = true →
    s.prof.running.link.beaconPeriod.toNat * 100 ≤ s.link.beacon + 1 →
    ∃ t, exec .beaconTimer s = .next t ∧ onlyParts [.link] s t ∧
      t.link = { s.link with pendingTx := some s.sup.state, announced := some s.sup.state, beacon := 0 }

/-- Intake takes the oldest entry: a message of a watched node makes it ALIVE, lowers the leaky counter, is judged by its sequence
number, and acts on its code's set unless it is a duplicate; one of a node no longer watched is discarded (R43, R45, R46, R48,
R55). -/
def Obligations.IntakeAppliesOldestMessage : Prop :=
  ∀ (m : LinkMsg) (rest : List LinkMsg) (s : State), s.clk.phase = .running →
    linkOperates s.prof.running.link s.sup.state = true → s.link.inbox = m :: rest → (m.kind ≠ .beacon → m.code.toNat ≤ 15) →
    ∃ t, exec .intake s = .next t ∧ onlyParts [.link] s t ∧
      if watched s.prof.running.link m.node = false then t.link = { s.link with inbox := rest }
      else
        let last := (vget s.link.nodes m.node).lastSeq
        let k := codeIndex m.code
        t.link = { s.link with
            inbox := rest, nodes := t.link.nodes, leaky := satDec s.link.leaky, dup := t.link.dup, gap := t.link.gap,
            sets := t.link.sets, last := t.link.last } ∧
          vget t.link.nodes m.node = { lastSeq := some m.seq, nstate := .alive, silence := 0 } ∧
          (∀ n, n ≠ m.node → vget t.link.nodes n = vget s.link.nodes n) ∧
          t.link.dup = (if last = some m.seq then satInc s.link.dup else s.link.dup) ∧
          t.link.gap = (if last ≠ none ∧ last ≠ some m.seq ∧ last ≠ some (m.seq - 1) then satInc s.link.gap
            else s.link.gap) ∧
          (∀ j, j ≠ k → vget t.link.sets j = vget s.link.sets j ∧ vget t.link.last j = vget s.link.last j) ∧
          if last = some m.seq ∨ m.kind = .beacon then
            vget t.link.sets k = vget s.link.sets k ∧ vget t.link.last k = vget s.link.last k
          else if m.kind = .event then
            vget t.link.sets k = vget s.link.sets k ||| BitVec.twoPow 8 m.node.val ∧
              vget t.link.last k = some { node := m.node, detail := m.detail }
          else
            vget t.link.sets k = vget s.link.sets k &&& ~~~(BitVec.twoPow 8 m.node.val) ∧
              vget t.link.last k =
                if (vget s.link.sets k).getLsbD m.node.val = true ∧ vget t.link.sets k = 0 then none
                else vget s.link.last k

/-- A comparator's settle allowance runs out, OSV_FILTER mismatches in a row qualify and as many matches withdraw; only that
comparator changes (R147, R148). -/
def Obligations.ComparatorTransitions : Prop :=
  ∀ (i : Fin 8) (s : State), s.clk.phase = .running → s.sup.state ≠ .init →
    ((vget s.out.comps i).settle = 1 →
      ∃ t, exec (.settleAllowanceEnd i) s = .next t ∧
        t = s.setOut { s.out with comps := vset s.out.comps i { (vget s.out.comps i) with settle := 0 } }) ∧
    ((vget s.out.comps i).settle = 0 → (vget s.out.comps i).qual = false →
      s.prof.running.osv.filter.toNat ≤ (vget s.out.comps i).count.toNat + 1 →
      ∃ t, exec (.mismatchQualified i) s = .next t ∧
        t = s.setOut { s.out with comps := vset s.out.comps i { settle := 0, qual := true, count := 0 } }) ∧
    ((vget s.out.comps i).settle = 0 → (vget s.out.comps i).qual = true →
      s.prof.running.osv.filter.toNat ≤ (vget s.out.comps i).count.toNat + 1 →
      ∃ t, exec (.mismatchWithdrawn i) s = .next t ∧
        t = s.setOut { s.out with comps := vset s.out.comps i { settle := 0, qual := false, count := 0 } })

/-- A due exchange of a healthy ANTIPHASE pair swaps the phases, due again EP_HALF later, or resolves a pending change to STATIC; only
EP0 and EP1 move, and each output that moves gets its settle allowance (R143, R144, R147). That the row takes this one step of
Stage E and leaves every other output undriven is the model's choice (log 4). -/
def Obligations.ExchangeSwapsPhases : Prop :=
  ∀ (ph : Bool) (due : Tick) (pending : Bool) (s : State), s.clk.phase = .running →
    s.out.pair = .antiphase ph due pending → pairNeed s.sup.state s.sup.active = .healthy →
    isDue s.now due = true →
    ∃ t, exec .exchange s = .next t ∧ onlyParts [.out] s t ∧ t.out.epMin = s.out.epMin ∧
      t.out.pair = (if pending then .static
        else .antiphase (!ph) (addTicks s.now (msTicks s.prof.running.ep.half)) false) ∧
      t.out.level.getLsbD 4 = (if pending then true else !ph) ∧
      t.out.level.getLsbD 5 = (if pending then false else ph) ∧
      (∀ j : Fin 8, j.val ≠ 4 → j.val ≠ 5 → t.out.level.getLsbD j.val = s.out.level.getLsbD j.val) ∧
      ∀ j : Fin 8, vget t.out.comps j =
        if t.out.level.getLsbD j.val = s.out.level.getLsbD j.val then vget s.out.comps j
        else { (vget s.out.comps j) with settle := 2, count := 0 }

/-- A due CLOSED phase opens; a due OPEN or INITIAL phase is a LATE violation that advances the challenge and closes (R116, R118,
R119). -/
def Obligations.WatchdogPhasesRunOut : Prop :=
  (∀ (due : Tick) (s : State), s.clk.phase = .running → s.wd.phase = .closed due → isDue s.now due = true →
    ∃ t, exec .closedPhaseEnd s = .next t ∧
      t = s.setWd { s.wd with phase := .opn (addTicks s.now (msTicks s.prof.running.wd.opn)) }) ∧
  ∀ (due : Tick) (s : State), s.clk.phase = .running → (s.wd.phase = .opn due ∨ s.wd.phase = .initial due) →
    isDue s.now due = true →
    ∃ t, exec .watchdogLate s = .next t ∧
      t = s.setWd
        { phase := .closed (addTicks s.now (msTicks s.prof.running.wd.closed))
          challenge := nextChallenge s.wd.challenge, viol := satInc s.wd.viol, last := .late }

/-! ### Steps of a batch: Stages B and C -/

/-- R61, R62 and R63 for one record: which row of the table applies and what it does. -/
def Obligations.SourceRecordTable : Prop :=
  ∀ (d : Desc) (r : SrcRec),
    (r.state = .quiet → (r.cond || r.inj) = true → d.enable = true →
      (srcStep d r).2 = .raise ∧ (srcStep d r).1.state = .active ∧ (srcStep d r).1.count = satInc r.count ∧
        (srcStep d r).1.promoted = promotedBy d (satInc r.count) ∧
        (srcStep d r).1.detail = (if r.cond then r.condDetail else 0xFF) ∧
        (srcStep d r).1.node = (if r.cond then r.condNode else none) ∧ (srcStep d r).1.inj = r.inj ∧
        (srcStep d r).1.cond = r.cond ∧
        (srcStep d r).1.eff = some (if (srcStep d r).1.promoted then promoteCls d.cls else d.cls)) ∧
    (r.state = .quiet → ((r.cond || r.inj) = false ∨ d.enable = false) → srcStep d r = (r, .none)) ∧
    (r.state ≠ .quiet → (r.cond || r.inj) = true → srcStep d r = ({ r with state := .active }, .none)) ∧
    (r.state ≠ .quiet → (r.cond || r.inj) = false → d.recovery = .auto →
      srcStep d r = ({ r with state := .quiet }, .clear)) ∧
    (r.state ≠ .quiet → (r.cond || r.inj) = false → d.recovery = .host →
      srcStep d r = ({ r with state := .residual }, .none))

/-- R68: Stage C dispatches the collected occurrences, each once, by class, then priority, then source number. -/
def Obligations.ArbitrationOrder : Prop :=
  ∀ (occs : List Occ) (s : State),
    ∃ order : List Occ, stageC occs s = order.foldl (fun s o => dispatch o s) s ∧ order.Perm occs ∧
      order.Pairwise arbitrated

/-- The dispatch of an occurrence by state and class. CRITICAL in NORMAL or ALERT enters SAFE with its plan merged into an empty plan,
the Alarm List empty, and the request of a plan whose effective ACK is yes, its token the low 8 bits of the STATE record's SEQ;
from NORMAL it begins an episode (R80, R82, R90, R91, R92, R100, R101). ALARM there joins the Alarm List in its order and is in
ALERT (R82, R85), or, with the list full, enters SAFE by exhaustion (R87). In SAFE a CRITICAL merges its plan, may create a
request, aborts a session with its commit and, as a compound fault, escalates (R159, R161); an ALARM is recorded only (R83, R100,
R105). NOTICE, and every
class in LOCKDOWN, is recorded only (R82, R83, R84). ALARM and CRITICAL abort a self-test run, but not in LOCKDOWN (R170). -/
def Obligations.CriticalEntersSafe : Prop :=
  (∀ (o : Occ) (s : State), (s.sup.state = .normal ∨ s.sup.state = .alert) → o.cls = .critical →
    dispatchedIntoSafe false o s (dispatch o s)) ∧
  (∀ (o : Occ) (s : State), (s.sup.state = .normal ∨ s.sup.state = .alert) → o.cls = .alarm →
    (8 ≤ s.sup.alarms.length → dispatchedIntoSafe true o s (dispatch o s)) ∧
    (s.sup.alarms.length < 8 → dispatchedToAlert o s (dispatch o s))) ∧
  (∀ (o : Occ) (s : State),
    (o.cls = .notice ∧ (s.sup.state = .normal ∨ s.sup.state = .alert ∨ s.sup.state = .safe) ∨
      s.sup.state = .lockdown) →
    onlyParts [.jrn] s (dispatch o s) ∧
      journaled [.raise o.src o.cls o.injected o.promoted false o.node o.detail] s (dispatch o s)) ∧
  (∀ (o : Occ) (s : State), s.sup.state = .safe → o.cls = .alarm →
    onlyParts [.jrn, .st] s (dispatch o s) ∧ runAborted s (dispatch o s) ∧
      journaled [.raise o.src .alarm o.injected o.promoted false o.node o.detail] s (dispatch o s)) ∧
  ∀ (o : Occ) (s : State), s.sup.state = .safe → o.cls = .critical →
    ((∀ r, s.ack.req = some r → r.created = s.now) → dispatchedInSafe o s (dispatch o s)) ∧
    ∀ r, s.ack.req = some r → r.created ≠ s.now →
      ∃ u, dispatchedInSafe o s u ∧ escalated u (dispatch o s)

/-! ### Steps of a batch: Stage D -/

/-- R88: a due first entry of the Alarm List writes its EXPIRY record and enters SAFE with its plan, which aborts an open
session with its commit and starts the EP minimum-active time of a plan with EP_FAULT (R90, R100, R146, R159, R161). -/
def Obligations.ExpiryEntersSafe : Prop :=
  ∀ (x : Alarm) (rest : List Alarm) (s : State), s.clk.phase = .running → s.sup.state = .alert →
    s.sup.alarms = x :: rest → isDue s.now x.expiry = true →
    ∃ t, exec .expiry s = .next t ∧ onlyParts (.crit :: supParts) s t ∧ t.crit = critNow t ∧
      t.sup =
        { s.sup with
          state := .safe, alarms := [], cause := some x.src
          active := mergeActive x.plan (planOf s x.plan) emptyPlan
          dwell := some (addTicks s.now (tenMsTicks (planOf s x.plan).dwell))
          hostReset := requestPulse (planOf s x.plan) s.now s.sup.hostReset
          powerCut := requestCut (planOf s x.plan) s.now s.sup.powerCut } ∧
      t.ack = { s.ack with req :=
        if (planOf s x.plan).ack = true ∧ (planOf s x.plan).pwrCut = false then some (newRequest (s.jrn.seq + 1) s t)
        else s.ack.req } ∧
      t.out = { s.out with epMin := mergeEpMin (planOf s x.plan) s.prof.running.ep.min s.now s.out.epMin } ∧
      sessionAborted (storeUnlocked s) s t ∧ t.nv = nvAfterAbort s ∧ t.wd = s.wd ∧ t.ret = s.ret ∧ t.st = s.st ∧
      journaled ([.expiry x.src, .state .alert .safe] ++ if sessionOpen s then [.session .abort] else []) s t

/-- R102: a RUNNING deadline that is due ends its request and performs an escalation step (R106, R107, R108, R111). -/
def Obligations.DeadlineExpiryEscalates : Prop :=
  ∀ (r : AckReq) (d : Tick) (s : State), s.clk.phase = .running → s.sup.state = .safe → s.ack.req = some r →
    r.deadline = some d → isDue s.now d = true →
    ∃ t, exec .ackDeadlineExpiry s = .next t ∧ t.crit = critNow t ∧ t.port = s.port ∧ t.src = s.src ∧
      t.attn = s.attn ∧ escalated s t ∧ (levelPerformed s ≠ 3 → t.prof = s.prof)

/-- R93 with R101 and R121: a due start enters PULSING, holds the watchdog and makes the deadline wait; a due end returns to IDLE, starts
a waiting deadline and restarts a held watchdog. A due power cut enters CUT, a due dwell ends, a due EP minimum-active time ends;
nothing else changes (R92, R94, R146). -/
def Obligations.SafeTimersRunOut : Prop :=
  (∀ (start : Tick) (len : Nat) (s : State), s.clk.phase = .running → s.sup.state = .safe →
    s.sup.hostReset = .delaying start len → isDue s.now start = true →
    ∃ t, exec .pulseStart s = .next t ∧ onlyParts [.sup, .ack, .wd, .crit] s t ∧ t.crit = critNow t ∧
      t.sup = { s.sup with hostReset := .pulsing (addTicks s.now len) } ∧ t.wd = wdHold s.wd ∧
      t.ack = { s.ack with req := s.ack.req.map (fun r => { r with deadline := none }) }) ∧
  (∀ (stop : Tick) (s : State), s.clk.phase = .running → s.sup.state = .safe → s.sup.hostReset = .pulsing stop →
    isDue s.now stop = true →
    ∃ t, exec .pulseEnd s = .next t ∧ onlyParts [.sup, .ack, .wd, .crit] s t ∧ t.crit = critNow t ∧
      t.sup = { s.sup with hostReset := .idle } ∧
      t.wd = (if s.wd.phase = .held then
        { s.wd with phase := .initial (addTicks s.now (tenMsTicks s.prof.running.wd.initial)) } else s.wd) ∧
      t.ack = { s.ack with req := s.ack.req.map (fun r =>
        { r with deadline := some (r.deadline.getD (addTicks s.now (tenMsTicks s.prof.running.sup.ackLimit))) }) }) ∧
  (∀ (due : Tick) (s : State), s.clk.phase = .running → s.sup.state = .safe → s.sup.powerCut = .delaying due →
    isDue s.now due = true →
    ∃ t, exec .cut s = .next t ∧ t = (s.setSup { s.sup with powerCut := .cut }).setCrit (critNow s)) ∧
  (∀ (due : Tick) (s : State), s.clk.phase = .running → s.sup.state = .safe → s.sup.dwell = some due →
    isDue s.now due = true →
    ∃ t, exec .dwellEnd s = .next t ∧ t = (s.setSup { s.sup with dwell := none }).setCrit (critNow s)) ∧
  ∀ (due : Tick) (s : State), s.clk.phase = .running → s.out.epMin = some due → isDue s.now due = true →
    ∃ t, exec .epMinEnd s = .next t ∧ t = (s.setOut { s.out with epMin := none }).setCrit (critNow s)

/-- R98 with R97: in SAFE with AUTO_RELEASE merged and no blocking condition the device releases by itself. -/
def Obligations.AutomaticReleaseReleases : Prop :=
  ∀ s : State, s.clk.phase = .running → s.sup.state = .safe → s.sup.active.autoRelease = true →
    s.ack.req = none → s.sup.dwell = none → s.sup.hostReset = .idle → (∀ d, s.sup.powerCut ≠ .delaying d) →
    s.out.epMin = none → severeLatched s = false →
    ∃ t, exec .automaticRelease s = .next t ∧ onlyParts [.sup, .ack, .jrn, .prof, .crit] s t ∧
      t.sup = { s.sup with
        state := .normal, active := emptyPlan, dwell := none, hostReset := .idle, powerCut := .idle, cause := none,
        first := none } ∧
      t.ack = { s.ack with level := 0 } ∧ t.crit = false ∧ unlockCancelled s t ∧
      journaled [.state .safe .normal] s t

/-- R169: a due step that fails ends the run with FAIL and its number, a passed fifth step ends it with PASS, any other passed step
begins the next, due 8 ticks later; a step passes by its own check: the check code of the running configuration, its ranges and
both checks of R158, the shadow dispatches, the eight comparators, the reference periods. In INIT the end of the run ends INIT
in LOCKDOWN, SAFE or NORMAL: in SAFE with S48 and S49 latched by their evidence, P0 merged and its request's token 0x00, in SAFE and
NORMAL with the watchdog in its first phase (R120, R167, R168), and the enabled heartbeat channels enter ARMING (R23, R39). The model's choices: the
code of ST1 is compared as the configuration itself (log 15), ST3 runs the model's own dispatch and the evidence of ST4 and ST5 is
an operand (log 16), and the channels arm at every end of INIT, LOCKDOWN included (log 12). -/
def Obligations.SelftestStepCompletes : Prop :=
  ∀ (n : Nat) (due : Tick) (f : BitVec 8) (c : Nat) (s : State), s.clk.phase = .running →
    s.st.result = .running n due → isDue s.now due = true →
    ∃ t, exec (.selftestStepCompletion f c) s = .next t ∧
      (¬ checkPasses n f c s → t.st = { result := .fail n, lastFail := some n }) ∧
      (checkPasses n f c s → 5 ≤ n → t.st = { result := .pass, lastFail := none }) ∧
      (checkPasses n f c s → n < 5 → t.st = { s.st with result := .running (n + 1) (addTicks s.now 8) }) ∧
      (s.sup.state = .init → s.clk.initStep = .selftest → (¬ checkPasses n f c s ∨ 5 ≤ n) →
        onlyParts (.crit :: initParts) s t ∧ initEnded (s.setSt t.st) t) ∧
      (s.sup.state ≠ .init ∨ s.clk.initStep ≠ .selftest ∨ checkPasses n f c s ∧ n < 5 → onlyParts [.st, .crit] s t)

/-- R153: the profile load by the state of the two banks, followed in INIT by the request of the archive entry (R136, R167). That the
banks are judged as they stand when the load completes is the model's choice (log 44). -/
def Obligations.ProfileLoadChoosesBank : Prop :=
  ∀ (k : Tick) (s : State), s.clk.phase = .running → s.nv.cur = some (.load, k) → s.nv.queue = [] →
    s.sup.state = .init → s.clk.initStep = .load →
    ∃ t, exec .profileLoadCompletion s = .next t ∧ onlyParts [.prof, .nv, .clk, .crit] s t ∧
      t.clk = { s.clk with initStep := .archive } ∧
      t.nv = { cur := some (.archWrite (initEntry s), s.now), queue := [] } ∧
      t.prof.bankA = s.prof.bankA ∧ t.prof.bankB = s.prof.bankB ∧ t.prof.session = s.prof.session ∧
      (∀ g p, readBank s.prof.bankA = .valid g p → (∀ g' p', readBank s.prof.bankB = .valid g' p' → genNewer g' g = false) →
        t.prof.running = p ∧ t.prof.curBank = some .bankA ∧ t.prof.gen = g ∧ t.prof.dflt = false) ∧
      (∀ g p, readBank s.prof.bankB = .valid g p → (∀ g' p', readBank s.prof.bankA = .valid g' p' → genNewer g g' = true) →
        t.prof.running = p ∧ t.prof.curBank = some .bankB ∧ t.prof.gen = g ∧ t.prof.dflt = false) ∧
      ((∀ g p, readBank s.prof.bankA ≠ .valid g p) → (∀ g p, readBank s.prof.bankB ≠ .valid g p) →
        t.prof.running = defaultProfile ∧ t.prof.curBank = none ∧ t.prof.gen = 0 ∧ t.prof.dflt = true ∧
          t.prof.s49Detail =
            (if readBank s.prof.bankA = .damaged then 1 else 0) ||| (if readBank s.prof.bankB = .damaged then 4 else 0))

/-- An idle controller begins the oldest request; a completed archive write leaves the slot after the newest VALID with its entry and
the next ordinal (slot 0 with ordinal 0 when no claim passes) and every other slot as it was, and in INIT a snapshot of the newest
slot before the self-test or the end of INIT; a completed erasure leaves every slot EMPTY; a commit that has run 200 ticks
completes: its bank is VALID and current with the new generation, the status DONE, a SESSION COMMIT record written, and the running
configuration, the default flag, the session and the other bank are unchanged; the next request then begins (R120, R137, R138,
R139, R160, R164, R167, R168). At an end of INIT the enabled heartbeat channels enter ARMING (R39). The model's choices: a commit
that begins makes its bank ERASED (log 26), where the ordinals single out no newest slot the slot written and the slot shown are
a free choice (log 9), an archive write chooses its slot as it completes, from the slots as they then stand (log 42), and the
channels arm also where INIT ends in LOCKDOWN, which R23 and R39 are read to say and R168 does not list (log 12). -/
def Obligations.NvOperationsBeginAndComplete : Prop :=
  (∀ (op : NvOp) (rest : List NvOp) (s : State), s.clk.phase = .running → s.nv.cur = none → s.nv.queue = op :: rest →
    ∃ t, exec .nvOperationBegin s = .next t ∧
      t = (s.setNv { cur := some (op, s.now), queue := rest }).setProf (storeAdvanced s s.prof)) ∧
  (∀ (e : ArchEntry) (k : Tick) (s : State), s.clk.phase = .running → s.nv.cur = some (.archWrite e, k) →
    s.sup.state ≠ .init →
    ∃ t, exec .archiveWriteCompletion s = .next t ∧ onlyParts [.arch, .nv, .prof, .crit] s t ∧
      t.nv = nvAdvanced s ∧ t.prof = storeAdvanced s s.prof ∧ t.arch.view = s.arch.view ∧ slotWritten e s t) ∧
  (∀ (e : ArchEntry) (k : Tick) (s : State), s.clk.phase = .running → s.nv.cur = some (.archWrite e, k) →
    s.nv.queue = [] → s.sup.state = .init → s.clk.initStep = .archive →
    ∃ t, exec .archiveWriteCompletion s = .next t ∧ onlyParts (.crit :: initParts) s t ∧ slotWritten e s t ∧
      ((∀ j, claimOrd (vget s.arch.slots j) = none) → t.arch.view = .valid 0 e) ∧
      (∀ n a, newestWith t.arch.slots n a → (∀ m b, newestWith t.arch.slots m b → m = n) →
        t.arch.view = readSlot (vget t.arch.slots n)) ∧
      if s.ret.sticky = false ∧ s.prof.running.stAtInit = true then
        onlyParts [.clk, .nv, .arch, .st, .crit] s t ∧ t.nv = { cur := none, queue := [] } ∧
          t.clk = { s.clk with initStep := .selftest } ∧
          t.st = { s.st with result := .running 1 (addTicks s.now 8) } ∧ t.sup = s.sup
      else initEnded ((s.setNv { cur := none, queue := [] }).setArch t.arch) t) ∧
  (∀ (k : Tick) (s : State), s.clk.phase = .running → s.nv.cur = some (.erase, k) →
    ∃ t, exec .archiveErasureCompletion s = .next t ∧ onlyParts [.arch, .nv, .prof, .crit] s t ∧
      t.nv = nvAdvanced s ∧ t.prof = storeAdvanced s s.prof ∧ t.arch.view = s.arch.view ∧
      ∀ i, readSlot (vget t.arch.slots i) = .empty) ∧
  ∀ (b : BankId) (g : Word) (p : Profile) (k : Tick) (s : State), s.clk.phase = .running →
    s.nv.cur = some (.commit b g p, k) → 200 ≤ (s.now - k).toNat →
    (∀ b' g' p', NvOp.commit b' g' p' ∉ s.nv.queue) →
    ∃ t, exec .commitCompletion s = .next t ∧ onlyParts [.prof, .jrn, .nv, .crit] s t ∧ t.nv = nvAdvanced s ∧
      t.prof =
        { setBank b (bankOf b t.prof) s.prof with curBank := some b, gen := g, commit := .done } ∧
      readBank (bankOf b t.prof) = .valid g p ∧ journaled [.session .commit] s t

/-- The unlock window closes UNLOCKING; the session limit drops the staging copy with a TIMEOUT record and abandons a commit, which
leaves its bank as it was when the commit had not begun, and ERASED or DAMAGED when it had (R156, R157, R161). -/
def Obligations.SessionTimersRunOut : Prop :=
  (∀ (due : Tick) (s : State), s.clk.phase = .running → s.prof.session = .unlocking due → isDue s.now due = true →
    ∃ t, exec .unlockWindowExpiry s = .next t ∧
      t = (s.setProf { s.prof with session := .closed }).setCrit (critNow s)) ∧
  ∀ (due : Tick) (p : Profile) (s : State), s.clk.phase = .running → s.prof.session = .opn due p →
    isDue s.now due = true →
    ∃ t, exec .sessionLimitExpiry s = .next t ∧ onlyParts [.prof, .jrn, .nv, .free, .crit] s t ∧
      t.prof.session = .closed ∧ t.prof.running = s.prof.running ∧ t.prof.gen = s.prof.gen ∧
      t.prof.curBank = s.prof.curBank ∧ journaled [.session .timeout] s t ∧
      t.prof.commit = (if s.prof.commit = .busy then .abandoned else s.prof.commit) ∧
      (s.prof.commit = .busy →
        (∀ b' g' p', NvOp.commit b' g' p' ∉ t.nv.queue ∧ ∀ k, t.nv.cur ≠ some (.commit b' g' p', k)) ∧
          (∀ b, (committing b s = false → bankOf b t.prof = bankOf b s.prof) ∧
            (committing b s = true → bankUnusable b t)) ∧ t.nv = withoutCommit s) ∧
      (s.prof.commit ≠ .busy → t.nv = s.nv ∧ t.prof.bankA = s.prof.bankA ∧ t.prof.bankB = s.prof.bankB)

/-- A wake request takes STANDBY to WAKING; the 20 ticks of WAKING end in NORMAL, with the enabled heartbeat channels ARMING and the
watchdog in INITIAL if it was held or is enabled (R23, R122, R174). -/
def Obligations.WakeAndWakingEnd : Prop :=
  (∀ s : State, s.clk.phase = .running → s.sup.state = .standby → s.clk.wakeReq = true →
    ∃ t, exec .wakeRequest s = .next t ∧ onlyParts [.sup, .jrn, .prof, .clk, .link, .crit] s t ∧
      t.sup = { s.sup with state := .waking } ∧ unlockCancelled s t ∧ journaled [.state .standby .waking] s t ∧
      t.clk = { s.clk with wakeReq := false, wakingDue := some (addTicks s.now 20) } ∧
      t.link = { s.link with pendingTx := none }) ∧
  ∀ (due : Tick) (s : State), s.clk.phase = .running → s.sup.state = .waking → s.clk.wakingDue = some due →
    isDue s.now due = true →
    ∃ t, exec .wakingEnd s = .next t ∧ onlyParts [.sup, .jrn, .prof, .clk, .wd, .hb, .crit] s t ∧
      t.sup = { s.sup with state := .normal } ∧ unlockCancelled s t ∧ journaled [.state .waking .normal] s t ∧
      t.clk = { s.clk with wakingDue := none } ∧
      (∀ i, vget t.hb i = if (vget s.prof.running.hb i).enable then
        { (vget s.hb i) with state := .arming, counter := 0, ref := none } else vget s.hb i) ∧
      t.wd = if s.wd.phase = .held ∨ s.wd.phase = .off ∧ s.prof.running.wd.enable = true then
        { s.wd with phase := .initial (addTicks s.now (tenMsTicks s.prof.running.wd.initial)) } else s.wd

/-! ### The link between batches -/

/-- LRX level by level, as the middles of the bit times show it, in any number of pieces (R40, R41). Outside a byte a high level is no
start bit and changes nothing; a low one begins a message at a ready receiver. Ten levels with a low start bit and a high stop bit
are a byte, least significant bit first, and with byte 3 the message is complete and checked by R42, of which only the first failing
check counts (R43, R44, R51); with a low stop bit they are one framing error, after which no level counts, however long the line
stays low. A receiver that is not ready counts nothing: after a complete message a start bit begins an early run, and to one that
ignores LRX a low level only makes the line busy; one that watches for a wake in STANDBY takes it as a start bit (R58), and outside
STANDBY only as a busy line. That such a receiver holds whether the line is idle is the model's reading of R52 and R57 (log 40). That a complete message
which fails a check leaves the receiver as any complete message does, so that an early run after it counts, is the model's reading
of R41 (log 17); that LRX reaches the model as these levels is its choice (log 43). -/
def Obligations.PeerMessageChecked : Prop :=
  (∀ (b0 b1 b2 b3 : Byte) (s : State), s.link.rx = .ready →
    ∃ t, exec (.peerEventMessage (byteFrame b0 true) (byteFrame b1 true) (byteFrame b2 true) (byteFrame b3 true)) s = .next t ∧
      onlyParts [.link] s t ∧
      t.link =
        { (if b3 ≠ crc8 [b0, b1, b2] then
            { s.link with crc := satInc s.link.crc, leaky := satInc s.link.leaky }
          else if b0.extractLsb' 3 2 = 3 ∨ b0.extractLsb' 3 2 ≠ 2 ∧ 15 < b1.toNat then
            { s.link with malformed := satInc s.link.malformed, leaky := satInc s.link.leaky }
          else if watched s.prof.running.link (nodeOf (b0.extractLsb' 5 3)) = false then
            { s.link with foreign := satInc s.link.foreign }
          else if s.link.inbox.length < 4 then
            { s.link with inbox := s.link.inbox ++
              [{ node := nodeOf (b0.extractLsb' 5 3)
                 kind := if b0.extractLsb' 3 2 = 0 then .event else if b0.extractLsb' 3 2 = 1 then .clear else .beacon
                 seq := b0.extractLsb' 0 3, code := b1, detail := b2 }] }
          else { s.link with overrun := true }) with rx := .notReady (.afterComplete false) }) ∧
  (∀ (x y : LrxLevels) (s : State),
    ∃ t, exec (.peerEventMessage x [] [] []) s = .next t ∧
      exec (.peerEventMessage (x ++ y) [] [] []) s = exec (.peerEventMessage y [] [] []) t) ∧
  (∀ (b0 b1 b2 b3 : LrxLevels) (s : State),
    exec (.peerEventMessage b0 b1 b2 b3) s = exec (.peerEventMessage (b0 ++ b1 ++ b2 ++ b3) [] [] []) s) ∧
  (∀ (x : LrxLevels) (s : State), false ∉ x → (∀ bytes bits, s.link.rx = .assembling bytes bits → bits = []) →
    exec (.peerEventMessage x [] [] []) s = .next s) ∧
  (∀ s : State, s.link.rx = .ready →
    exec (.peerEventMessage [false] [] [] []) s = .next (s.setLink { s.link with rx := .assembling [] [false] })) ∧
  (∀ (bytes : List Byte) (b : Byte) (s : State),
    s.link.rx = .assembling bytes [] ∨ s.link.rx = .ready ∧ bytes = [] →
    (bytes.length < 3 →
      exec (.peerEventMessage (byteFrame b true) [] [] []) s =
        .next (s.setLink { s.link with rx := .assembling (bytes ++ [b]) [] })) ∧
    ∀ later : LrxLevels,
      exec (.peerEventMessage (byteFrame b false) later [] []) s =
        .next (s.setLink { s.link with
          framing := satInc s.link.framing, leaky := satInc s.link.leaky, rx := .notReady .afterFail })) ∧
  (∀ (x : LrxLevels) (run : Bool) (s : State), s.link.rx = .notReady (.afterComplete run) →
    exec (.peerEventMessage x [] [] []) s =
      .next (if false ∈ x then s.setLink { s.link with rx := .notReady (.afterComplete true) } else s)) ∧
  (∀ (x : LrxLevels) (s : State), s.link.rx = .notReady .afterFail ∨ s.link.rx = .notReady .uncounted →
    exec (.peerEventMessage x [] [] []) s = .next s) ∧
  (∀ (x : LrxLevels) (idle : Bool) (s : State), false ∈ x →
    (s.link.rx = .off idle →
      exec (.peerEventMessage x [] [] []) s = .next (s.setLink { s.link with rx := .off false })) ∧
    (s.link.rx = .wakeWatch idle → s.sup.state ≠ .standby →
      exec (.peerEventMessage x [] [] []) s = .next (s.setLink { s.link with rx := .wakeWatch false }))) ∧
  ∀ (x : LrxLevels) (idle : Bool) (s : State), s.link.rx = .wakeWatch idle → s.sup.state = .standby → false ∈ x →
    exec (.peerEventMessage x [] [] []) s = exec .startBitWake s

/-- The receiver's other events: a message that has begun, or begins, and fails is counted once and the receiver is then not ready; bytes
that fail at a receiver that is not ready are counted by nothing, and begin an early run after a complete message; 2 byte-times of
idle make it ready, counting an early run that preceded them, or a message still unfinished, once as TRUNCATED (R41, R42, R43,
R51). Where the receiver ignores LRX or watches for a wake, bytes that fail make the line busy and 2 byte-times of idle make it
idle, which is the model's reading of R52 and R57 (log 40); at one that watches for a wake in STANDBY these rows stand for what
follows, and the start bit itself comes as START_BIT_WAKE or as a level (R58). That these rows do the same in the midst of a byte, where no idle falls, is the model's choice (log 43). -/
def Obligations.ReceiverEventsCounted : Prop :=
  (∀ s : State, (s.link.rx = .ready ∨ ∃ bytes bits, s.link.rx = .assembling bytes bits) →
    (∃ t, exec .framingError s = .next t ∧
      t = s.setLink { s.link with
        framing := satInc s.link.framing, leaky := satInc s.link.leaky, rx := .notReady .afterFail }) ∧
    ∃ t, exec .truncated s = .next t ∧
      t = s.setLink { s.link with
        truncation := satInc s.link.truncation, leaky := satInc s.link.leaky, rx := .notReady .afterFail }) ∧
  (∀ (i : Instr) (s : State), i = .framingError ∨ i = .truncated →
    (∀ run, s.link.rx = .notReady (.afterComplete run) →
      exec i s = .next (s.setLink { s.link with rx := .notReady (.afterComplete true) })) ∧
    (s.link.rx = .notReady .afterFail ∨ s.link.rx = .notReady .uncounted → exec i s = .next s) ∧
    ∀ idle, (s.link.rx = .off idle → exec i s = .next (s.setLink { s.link with rx := .off false })) ∧
      (s.link.rx = .wakeWatch idle → exec i s = .next (s.setLink { s.link with rx := .wakeWatch false }))) ∧
  (∀ (run : Bool) (s : State), s.link.rx = .notReady (.afterComplete run) →
    ∃ t, exec .earlyRun s = .next t ∧
      t = s.setLink { s.link with
        truncation := satInc s.link.truncation, leaky := satInc s.link.leaky, rx := .ready }) ∧
  (∀ s : State, (∀ run, s.link.rx ≠ .notReady (.afterComplete run)) → exec .earlyRun s = .next s) ∧
  (∀ s : State, s.link.rx = .ready → exec .receiverReady s = .next s) ∧
  (∀ (idle : Bool) (s : State),
    (s.link.rx = .off idle → exec .receiverReady s = .next (s.setLink { s.link with rx := .off true })) ∧
    (s.link.rx = .wakeWatch idle → exec .receiverReady s = .next (s.setLink { s.link with rx := .wakeWatch true }))) ∧
  (∀ (bytes : List Byte) (bits : List Bool) (s : State), s.link.rx = .assembling bytes bits →
    ∃ t, exec .receiverReady s = .next t ∧
      t = s.setLink { s.link with
        truncation := satInc s.link.truncation, leaky := satInc s.link.leaky, rx := .ready }) ∧
  ∀ (why : RxWhy) (s : State), s.link.rx = .notReady why →
    ∃ t, exec .receiverReady s = .next t ∧
      t = s.setLink (if why = .afterComplete true then
        { s.link with truncation := satInc s.link.truncation, leaky := satInc s.link.leaky, rx := .ready }
        else { s.link with rx := .ready })

/-- A start bit wakes a watching receiver in STANDBY, its message counted without the leaky counter; a pending announcement moves into
flight when nothing is in flight and the receiver is ready and assembles no message, taking the next SEQ, and otherwise stays; a
message leaves flight (R52, R57, R58). That in STANDBY, where the receiver is off or watches for a wake, 2 byte-times of idle on LRX
are enough and a busy line holds it back is the model's reading of R57, by which the transmitter then sends its pending slot
unless the line never becomes idle (log 40). -/
def Obligations.StartBitAndTransmitter : Prop :=
  (∀ (idle : Bool) (s : State), s.sup.state = .standby → s.link.rx = .wakeWatch idle →
    ∃ t, exec .startBitWake s = .next t ∧
      t = (s.setLink { s.link with truncation := satInc s.link.truncation, rx := .notReady .uncounted }).setClk
        { s.clk with wakeReq := true }) ∧
  (∀ (x : SupState) (s : State), s.link.flight = none → s.link.pendingTx = some x →
    (s.link.rx = .ready ∨ s.sup.state = .standby ∧ (s.link.rx = .off true ∨ s.link.rx = .wakeWatch true)) →
    ∃ t, exec .messageIntoFlight s = .next t ∧
      t = s.setLink { s.link with
        flight := some
          { b0 := BitVec.ofNat 3 s.prof.running.link.ownNode.val ++ (2 : BitVec 2) ++ s.link.txSeq, b1 := 0
            b2 := (stateCode x).setWidth 8
            b3 := crc8 [BitVec.ofNat 3 s.prof.running.link.ownNode.val ++ (2 : BitVec 2) ++ s.link.txSeq, 0,
              (stateCode x).setWidth 8] }
        pendingTx := none, txSeq := s.link.txSeq + 1 }) ∧
  (∀ s : State,
    (s.link.flight ≠ none ∨ s.link.pendingTx = none ∨ (∃ why, s.link.rx = .notReady why) ∨
      (∃ bytes bits, s.link.rx = .assembling bytes bits) ∨ s.link.rx = .off false ∨ s.link.rx = .wakeWatch false ∨
      s.sup.state ≠ .standby ∧ s.link.rx ≠ .ready) →
    exec .messageIntoFlight s = .next s) ∧
  ∀ s : State, ∃ t, exec .messageLeavesFlight s = .next t ∧ t = s.setLink { s.link with flight := none }

/-! ### Rules of the whole machine -/

/-- No command, event or timer leads out of LOCKDOWN; only a reset does, also one that begins within a batch (R112, R165). -/
def Obligations.LockdownLeftOnlyByReset : Prop :=
  ∀ (i : Instr) (s t : State), s.sup.state = .lockdown → i ≠ .por → (∀ n, i ≠ .pinReset n) →
    (∀ inp, i = .tickBatch inp → inp.cut = none) →
    exec i s = .next t → t.sup.state = .lockdown ∧ t.ack.level = s.ack.level ∧ t.sup.episode = s.sup.episode

/-- The sticky-lockdown flag is cleared only by a power-on reset, and set only by an entry into LOCKDOWN, be it in a batch that a
pin reset then abandons (R111, R113, R165, R166; where a reset can fall in a batch: log 39). -/
def Obligations.StickyFlagOnlyByPorAndLockdown : Prop :=
  ∀ (i : Instr) (s t : State), exec i s = .next t →
    (s.ret.sticky = true → i ≠ .por →
      (∀ inp p, i = .tickBatch inp → inp.cut ≠ some { cause := .supply, point := p }) → t.ret.sticky = true) ∧
      (s.ret.sticky = false → t.ret.sticky = true →
        t.sup.state = .lockdown ∨
          ∃ inp c, i = .tickBatch inp ∧ inp.cut = some c ∧ (abandonBatch inp c.point s).sup.state = .lockdown)

/-- The invariants of the journal, the Supervisor, the NV Controller and the port are kept by every step (R15, R85, R86, R99, R125, R131,
R161, R164). -/
def Obligations.InvariantsAreKept : Prop :=
  ∀ s t : State, Inv s → step s = .next t → Inv t

/-- The invariants hold right after reset. -/
def Obligations.InvariantsHoldAtReset : Prop := Inv State.reset

/-- R4 and R5: the frame that carries a command, tag and argument has a passing check code, carries exactly them, is read back from its 48
bits, and the check computed over all six bytes leaves 0. -/
def Obligations.RequestFramesReadBack : Prop :=
  ∀ (code : Byte) (tag : BitVec 3) (arg : BitVec 24),
    frameCrcOk (requestFrame code tag arg) = true ∧ (requestFrame code tag arg).b0 = code ∧
      frameTag (requestFrame code tag arg) = tag ∧ frameLow5 (requestFrame code tag arg) = 0 ∧
      frameArg (requestFrame code tag arg) = arg ∧
      frameOfBits ([(requestFrame code tag arg).b0, (requestFrame code tag arg).b1, (requestFrame code tag arg).b2,
        (requestFrame code tag arg).b3, (requestFrame code tag arg).b4,
        (requestFrame code tag arg).b5].flatMap bitsOfByte) = requestFrame code tag arg ∧
      crc8 [(requestFrame code tag arg).b0, (requestFrame code tag arg).b1, (requestFrame code tag arg).b2,
        (requestFrame code tag arg).b3, (requestFrame code tag arg).b4, (requestFrame code tag arg).b5] = 0

end
end

