-- ==== Sys2Proof/Laws/State.lean ====
section
/-!
SUPPORT. One lemma for each field after each replacement of a field: no later proof unfolds a record update.
-/

namespace Sys2Proof.Machine

/-! ### Fields after `State.setClk` -/

@[simp] theorem setClk_clk (s : State) (x : Clock) : (s.setClk x).clk = x := rfl
@[simp] theorem setClk_ret (s : State) (x : Clock) : (s.setClk x).ret = s.ret := rfl
@[simp] theorem setClk_port (s : State) (x : Clock) : (s.setClk x).port = s.port := rfl
@[simp] theorem setClk_fl (s : State) (x : Clock) : (s.setClk x).fl = s.fl := rfl
@[simp] theorem setClk_hb (s : State) (x : Clock) : (s.setClk x).hb = s.hb := rfl
@[simp] theorem setClk_link (s : State) (x : Clock) : (s.setClk x).link = s.link := rfl
@[simp] theorem setClk_src (s : State) (x : Clock) : (s.setClk x).src = s.src := rfl
@[simp] theorem setClk_sw (s : State) (x : Clock) : (s.setClk x).sw = s.sw := rfl
@[simp] theorem setClk_sup (s : State) (x : Clock) : (s.setClk x).sup = s.sup := rfl
@[simp] theorem setClk_ack (s : State) (x : Clock) : (s.setClk x).ack = s.ack := rfl
@[simp] theorem setClk_wd (s : State) (x : Clock) : (s.setClk x).wd = s.wd := rfl
@[simp] theorem setClk_jrn (s : State) (x : Clock) : (s.setClk x).jrn = s.jrn := rfl
@[simp] theorem setClk_arch (s : State) (x : Clock) : (s.setClk x).arch = s.arch := rfl
@[simp] theorem setClk_out (s : State) (x : Clock) : (s.setClk x).out = s.out := rfl
@[simp] theorem setClk_prof (s : State) (x : Clock) : (s.setClk x).prof = s.prof := rfl
@[simp] theorem setClk_nv (s : State) (x : Clock) : (s.setClk x).nv = s.nv := rfl
@[simp] theorem setClk_st (s : State) (x : Clock) : (s.setClk x).st = s.st := rfl
@[simp] theorem setClk_sel (s : State) (x : Clock) : (s.setClk x).sel = s.sel := rfl
@[simp] theorem setClk_attn (s : State) (x : Clock) : (s.setClk x).attn = s.attn := rfl
@[simp] theorem setClk_crit (s : State) (x : Clock) : (s.setClk x).crit = s.crit := rfl
@[simp] theorem setClk_free (s : State) (x : Clock) : (s.setClk x).free = s.free := rfl
@[simp] theorem setClk_pending (s : State) (x : Clock) : (s.setClk x).pending = s.pending := rfl

/-! ### Fields after `State.setRet` -/

@[simp] theorem setRet_clk (s : State) (x : Retained) : (s.setRet x).clk = s.clk := rfl
@[simp] theorem setRet_ret (s : State) (x : Retained) : (s.setRet x).ret = x := rfl
@[simp] theorem setRet_port (s : State) (x : Retained) : (s.setRet x).port = s.port := rfl
@[simp] theorem setRet_fl (s : State) (x : Retained) : (s.setRet x).fl = s.fl := rfl
@[simp] theorem setRet_hb (s : State) (x : Retained) : (s.setRet x).hb = s.hb := rfl
@[simp] theorem setRet_link (s : State) (x : Retained) : (s.setRet x).link = s.link := rfl
@[simp] theorem setRet_src (s : State) (x : Retained) : (s.setRet x).src = s.src := rfl
@[simp] theorem setRet_sw (s : State) (x : Retained) : (s.setRet x).sw = s.sw := rfl
@[simp] theorem setRet_sup (s : State) (x : Retained) : (s.setRet x).sup = s.sup := rfl
@[simp] theorem setRet_ack (s : State) (x : Retained) : (s.setRet x).ack = s.ack := rfl
@[simp] theorem setRet_wd (s : State) (x : Retained) : (s.setRet x).wd = s.wd := rfl
@[simp] theorem setRet_jrn (s : State) (x : Retained) : (s.setRet x).jrn = s.jrn := rfl
@[simp] theorem setRet_arch (s : State) (x : Retained) : (s.setRet x).arch = s.arch := rfl
@[simp] theorem setRet_out (s : State) (x : Retained) : (s.setRet x).out = s.out := rfl
@[simp] theorem setRet_prof (s : State) (x : Retained) : (s.setRet x).prof = s.prof := rfl
@[simp] theorem setRet_nv (s : State) (x : Retained) : (s.setRet x).nv = s.nv := rfl
@[simp] theorem setRet_st (s : State) (x : Retained) : (s.setRet x).st = s.st := rfl
@[simp] theorem setRet_sel (s : State) (x : Retained) : (s.setRet x).sel = s.sel := rfl
@[simp] theorem setRet_attn (s : State) (x : Retained) : (s.setRet x).attn = s.attn := rfl
@[simp] theorem setRet_crit (s : State) (x : Retained) : (s.setRet x).crit = s.crit := rfl
@[simp] theorem setRet_free (s : State) (x : Retained) : (s.setRet x).free = s.free := rfl
@[simp] theorem setRet_pending (s : State) (x : Retained) : (s.setRet x).pending = s.pending := rfl

/-! ### Fields after `State.setPort` -/

@[simp] theorem setPort_clk (s : State) (x : HostPort) : (s.setPort x).clk = s.clk := rfl
@[simp] theorem setPort_ret (s : State) (x : HostPort) : (s.setPort x).ret = s.ret := rfl
@[simp] theorem setPort_port (s : State) (x : HostPort) : (s.setPort x).port = x := rfl
@[simp] theorem setPort_fl (s : State) (x : HostPort) : (s.setPort x).fl = s.fl := rfl
@[simp] theorem setPort_hb (s : State) (x : HostPort) : (s.setPort x).hb = s.hb := rfl
@[simp] theorem setPort_link (s : State) (x : HostPort) : (s.setPort x).link = s.link := rfl
@[simp] theorem setPort_src (s : State) (x : HostPort) : (s.setPort x).src = s.src := rfl
@[simp] theorem setPort_sw (s : State) (x : HostPort) : (s.setPort x).sw = s.sw := rfl
@[simp] theorem setPort_sup (s : State) (x : HostPort) : (s.setPort x).sup = s.sup := rfl
@[simp] theorem setPort_ack (s : State) (x : HostPort) : (s.setPort x).ack = s.ack := rfl
@[simp] theorem setPort_wd (s : State) (x : HostPort) : (s.setPort x).wd = s.wd := rfl
@[simp] theorem setPort_jrn (s : State) (x : HostPort) : (s.setPort x).jrn = s.jrn := rfl
@[simp] theorem setPort_arch (s : State) (x : HostPort) : (s.setPort x).arch = s.arch := rfl
@[simp] theorem setPort_out (s : State) (x : HostPort) : (s.setPort x).out = s.out := rfl
@[simp] theorem setPort_prof (s : State) (x : HostPort) : (s.setPort x).prof = s.prof := rfl
@[simp] theorem setPort_nv (s : State) (x : HostPort) : (s.setPort x).nv = s.nv := rfl
@[simp] theorem setPort_st (s : State) (x : HostPort) : (s.setPort x).st = s.st := rfl
@[simp] theorem setPort_sel (s : State) (x : HostPort) : (s.setPort x).sel = s.sel := rfl
@[simp] theorem setPort_attn (s : State) (x : HostPort) : (s.setPort x).attn = s.attn := rfl
@[simp] theorem setPort_crit (s : State) (x : HostPort) : (s.setPort x).crit = s.crit := rfl
@[simp] theorem setPort_free (s : State) (x : HostPort) : (s.setPort x).free = s.free := rfl
@[simp] theorem setPort_pending (s : State) (x : HostPort) : (s.setPort x).pending = s.pending := rfl

/-! ### Fields after `State.setFl` -/

@[simp] theorem setFl_clk (s : State) (x : Vector FlUnit 16) : (s.setFl x).clk = s.clk := rfl
@[simp] theorem setFl_ret (s : State) (x : Vector FlUnit 16) : (s.setFl x).ret = s.ret := rfl
@[simp] theorem setFl_port (s : State) (x : Vector FlUnit 16) : (s.setFl x).port = s.port := rfl
@[simp] theorem setFl_fl (s : State) (x : Vector FlUnit 16) : (s.setFl x).fl = x := rfl
@[simp] theorem setFl_hb (s : State) (x : Vector FlUnit 16) : (s.setFl x).hb = s.hb := rfl
@[simp] theorem setFl_link (s : State) (x : Vector FlUnit 16) : (s.setFl x).link = s.link := rfl
@[simp] theorem setFl_src (s : State) (x : Vector FlUnit 16) : (s.setFl x).src = s.src := rfl
@[simp] theorem setFl_sw (s : State) (x : Vector FlUnit 16) : (s.setFl x).sw = s.sw := rfl
@[simp] theorem setFl_sup (s : State) (x : Vector FlUnit 16) : (s.setFl x).sup = s.sup := rfl
@[simp] theorem setFl_ack (s : State) (x : Vector FlUnit 16) : (s.setFl x).ack = s.ack := rfl
@[simp] theorem setFl_wd (s : State) (x : Vector FlUnit 16) : (s.setFl x).wd = s.wd := rfl
@[simp] theorem setFl_jrn (s : State) (x : Vector FlUnit 16) : (s.setFl x).jrn = s.jrn := rfl
@[simp] theorem setFl_arch (s : State) (x : Vector FlUnit 16) : (s.setFl x).arch = s.arch := rfl
@[simp] theorem setFl_out (s : State) (x : Vector FlUnit 16) : (s.setFl x).out = s.out := rfl
@[simp] theorem setFl_prof (s : State) (x : Vector FlUnit 16) : (s.setFl x).prof = s.prof := rfl
@[simp] theorem setFl_nv (s : State) (x : Vector FlUnit 16) : (s.setFl x).nv = s.nv := rfl
@[simp] theorem setFl_st (s : State) (x : Vector FlUnit 16) : (s.setFl x).st = s.st := rfl
@[simp] theorem setFl_sel (s : State) (x : Vector FlUnit 16) : (s.setFl x).sel = s.sel := rfl
@[simp] theorem setFl_attn (s : State) (x : Vector FlUnit 16) : (s.setFl x).attn = s.attn := rfl
@[simp] theorem setFl_crit (s : State) (x : Vector FlUnit 16) : (s.setFl x).crit = s.crit := rfl
@[simp] theorem setFl_free (s : State) (x : Vector FlUnit 16) : (s.setFl x).free = s.free := rfl
@[simp] theorem setFl_pending (s : State) (x : Vector FlUnit 16) : (s.setFl x).pending = s.pending := rfl

/-! ### Fields after `State.setHb` -/

@[simp] theorem setHb_clk (s : State) (x : Vector HbUnit 4) : (s.setHb x).clk = s.clk := rfl
@[simp] theorem setHb_ret (s : State) (x : Vector HbUnit 4) : (s.setHb x).ret = s.ret := rfl
@[simp] theorem setHb_port (s : State) (x : Vector HbUnit 4) : (s.setHb x).port = s.port := rfl
@[simp] theorem setHb_fl (s : State) (x : Vector HbUnit 4) : (s.setHb x).fl = s.fl := rfl
@[simp] theorem setHb_hb (s : State) (x : Vector HbUnit 4) : (s.setHb x).hb = x := rfl
@[simp] theorem setHb_link (s : State) (x : Vector HbUnit 4) : (s.setHb x).link = s.link := rfl
@[simp] theorem setHb_src (s : State) (x : Vector HbUnit 4) : (s.setHb x).src = s.src := rfl
@[simp] theorem setHb_sw (s : State) (x : Vector HbUnit 4) : (s.setHb x).sw = s.sw := rfl
@[simp] theorem setHb_sup (s : State) (x : Vector HbUnit 4) : (s.setHb x).sup = s.sup := rfl
@[simp] theorem setHb_ack (s : State) (x : Vector HbUnit 4) : (s.setHb x).ack = s.ack := rfl
@[simp] theorem setHb_wd (s : State) (x : Vector HbUnit 4) : (s.setHb x).wd = s.wd := rfl
@[simp] theorem setHb_jrn (s : State) (x : Vector HbUnit 4) : (s.setHb x).jrn = s.jrn := rfl
@[simp] theorem setHb_arch (s : State) (x : Vector HbUnit 4) : (s.setHb x).arch = s.arch := rfl
@[simp] theorem setHb_out (s : State) (x : Vector HbUnit 4) : (s.setHb x).out = s.out := rfl
@[simp] theorem setHb_prof (s : State) (x : Vector HbUnit 4) : (s.setHb x).prof = s.prof := rfl
@[simp] theorem setHb_nv (s : State) (x : Vector HbUnit 4) : (s.setHb x).nv = s.nv := rfl
@[simp] theorem setHb_st (s : State) (x : Vector HbUnit 4) : (s.setHb x).st = s.st := rfl
@[simp] theorem setHb_sel (s : State) (x : Vector HbUnit 4) : (s.setHb x).sel = s.sel := rfl
@[simp] theorem setHb_attn (s : State) (x : Vector HbUnit 4) : (s.setHb x).attn = s.attn := rfl
@[simp] theorem setHb_crit (s : State) (x : Vector HbUnit 4) : (s.setHb x).crit = s.crit := rfl
@[simp] theorem setHb_free (s : State) (x : Vector HbUnit 4) : (s.setHb x).free = s.free := rfl
@[simp] theorem setHb_pending (s : State) (x : Vector HbUnit 4) : (s.setHb x).pending = s.pending := rfl

/-! ### Fields after `State.setLink` -/

@[simp] theorem setLink_clk (s : State) (x : Link) : (s.setLink x).clk = s.clk := rfl
@[simp] theorem setLink_ret (s : State) (x : Link) : (s.setLink x).ret = s.ret := rfl
@[simp] theorem setLink_port (s : State) (x : Link) : (s.setLink x).port = s.port := rfl
@[simp] theorem setLink_fl (s : State) (x : Link) : (s.setLink x).fl = s.fl := rfl
@[simp] theorem setLink_hb (s : State) (x : Link) : (s.setLink x).hb = s.hb := rfl
@[simp] theorem setLink_link (s : State) (x : Link) : (s.setLink x).link = x := rfl
@[simp] theorem setLink_src (s : State) (x : Link) : (s.setLink x).src = s.src := rfl
@[simp] theorem setLink_sw (s : State) (x : Link) : (s.setLink x).sw = s.sw := rfl
@[simp] theorem setLink_sup (s : State) (x : Link) : (s.setLink x).sup = s.sup := rfl
@[simp] theorem setLink_ack (s : State) (x : Link) : (s.setLink x).ack = s.ack := rfl
@[simp] theorem setLink_wd (s : State) (x : Link) : (s.setLink x).wd = s.wd := rfl
@[simp] theorem setLink_jrn (s : State) (x : Link) : (s.setLink x).jrn = s.jrn := rfl
@[simp] theorem setLink_arch (s : State) (x : Link) : (s.setLink x).arch = s.arch := rfl
@[simp] theorem setLink_out (s : State) (x : Link) : (s.setLink x).out = s.out := rfl
@[simp] theorem setLink_prof (s : State) (x : Link) : (s.setLink x).prof = s.prof := rfl
@[simp] theorem setLink_nv (s : State) (x : Link) : (s.setLink x).nv = s.nv := rfl
@[simp] theorem setLink_st (s : State) (x : Link) : (s.setLink x).st = s.st := rfl
@[simp] theorem setLink_sel (s : State) (x : Link) : (s.setLink x).sel = s.sel := rfl
@[simp] theorem setLink_attn (s : State) (x : Link) : (s.setLink x).attn = s.attn := rfl
@[simp] theorem setLink_crit (s : State) (x : Link) : (s.setLink x).crit = s.crit := rfl
@[simp] theorem setLink_free (s : State) (x : Link) : (s.setLink x).free = s.free := rfl
@[simp] theorem setLink_pending (s : State) (x : Link) : (s.setLink x).pending = s.pending := rfl

/-! ### Fields after `State.setSrc` -/

@[simp] theorem setSrc_clk (s : State) (x : Vector SrcRec 56) : (s.setSrc x).clk = s.clk := rfl
@[simp] theorem setSrc_ret (s : State) (x : Vector SrcRec 56) : (s.setSrc x).ret = s.ret := rfl
@[simp] theorem setSrc_port (s : State) (x : Vector SrcRec 56) : (s.setSrc x).port = s.port := rfl
@[simp] theorem setSrc_fl (s : State) (x : Vector SrcRec 56) : (s.setSrc x).fl = s.fl := rfl
@[simp] theorem setSrc_hb (s : State) (x : Vector SrcRec 56) : (s.setSrc x).hb = s.hb := rfl
@[simp] theorem setSrc_link (s : State) (x : Vector SrcRec 56) : (s.setSrc x).link = s.link := rfl
@[simp] theorem setSrc_src (s : State) (x : Vector SrcRec 56) : (s.setSrc x).src = x := rfl
@[simp] theorem setSrc_sw (s : State) (x : Vector SrcRec 56) : (s.setSrc x).sw = s.sw := rfl
@[simp] theorem setSrc_sup (s : State) (x : Vector SrcRec 56) : (s.setSrc x).sup = s.sup := rfl
@[simp] theorem setSrc_ack (s : State) (x : Vector SrcRec 56) : (s.setSrc x).ack = s.ack := rfl
@[simp] theorem setSrc_wd (s : State) (x : Vector SrcRec 56) : (s.setSrc x).wd = s.wd := rfl
@[simp] theorem setSrc_jrn (s : State) (x : Vector SrcRec 56) : (s.setSrc x).jrn = s.jrn := rfl
@[simp] theorem setSrc_arch (s : State) (x : Vector SrcRec 56) : (s.setSrc x).arch = s.arch := rfl
@[simp] theorem setSrc_out (s : State) (x : Vector SrcRec 56) : (s.setSrc x).out = s.out := rfl
@[simp] theorem setSrc_prof (s : State) (x : Vector SrcRec 56) : (s.setSrc x).prof = s.prof := rfl
@[simp] theorem setSrc_nv (s : State) (x : Vector SrcRec 56) : (s.setSrc x).nv = s.nv := rfl
@[simp] theorem setSrc_st (s : State) (x : Vector SrcRec 56) : (s.setSrc x).st = s.st := rfl
@[simp] theorem setSrc_sel (s : State) (x : Vector SrcRec 56) : (s.setSrc x).sel = s.sel := rfl
@[simp] theorem setSrc_attn (s : State) (x : Vector SrcRec 56) : (s.setSrc x).attn = s.attn := rfl
@[simp] theorem setSrc_crit (s : State) (x : Vector SrcRec 56) : (s.setSrc x).crit = s.crit := rfl
@[simp] theorem setSrc_free (s : State) (x : Vector SrcRec 56) : (s.setSrc x).free = s.free := rfl
@[simp] theorem setSrc_pending (s : State) (x : Vector SrcRec 56) : (s.setSrc x).pending = s.pending := rfl

/-! ### Fields after `State.setSw` -/

@[simp] theorem setSw_clk (s : State) (x : BitVec 4) : (s.setSw x).clk = s.clk := rfl
@[simp] theorem setSw_ret (s : State) (x : BitVec 4) : (s.setSw x).ret = s.ret := rfl
@[simp] theorem setSw_port (s : State) (x : BitVec 4) : (s.setSw x).port = s.port := rfl
@[simp] theorem setSw_fl (s : State) (x : BitVec 4) : (s.setSw x).fl = s.fl := rfl
@[simp] theorem setSw_hb (s : State) (x : BitVec 4) : (s.setSw x).hb = s.hb := rfl
@[simp] theorem setSw_link (s : State) (x : BitVec 4) : (s.setSw x).link = s.link := rfl
@[simp] theorem setSw_src (s : State) (x : BitVec 4) : (s.setSw x).src = s.src := rfl
@[simp] theorem setSw_sw (s : State) (x : BitVec 4) : (s.setSw x).sw = x := rfl
@[simp] theorem setSw_sup (s : State) (x : BitVec 4) : (s.setSw x).sup = s.sup := rfl
@[simp] theorem setSw_ack (s : State) (x : BitVec 4) : (s.setSw x).ack = s.ack := rfl
@[simp] theorem setSw_wd (s : State) (x : BitVec 4) : (s.setSw x).wd = s.wd := rfl
@[simp] theorem setSw_jrn (s : State) (x : BitVec 4) : (s.setSw x).jrn = s.jrn := rfl
@[simp] theorem setSw_arch (s : State) (x : BitVec 4) : (s.setSw x).arch = s.arch := rfl
@[simp] theorem setSw_out (s : State) (x : BitVec 4) : (s.setSw x).out = s.out := rfl
@[simp] theorem setSw_prof (s : State) (x : BitVec 4) : (s.setSw x).prof = s.prof := rfl
@[simp] theorem setSw_nv (s : State) (x : BitVec 4) : (s.setSw x).nv = s.nv := rfl
@[simp] theorem setSw_st (s : State) (x : BitVec 4) : (s.setSw x).st = s.st := rfl
@[simp] theorem setSw_sel (s : State) (x : BitVec 4) : (s.setSw x).sel = s.sel := rfl
@[simp] theorem setSw_attn (s : State) (x : BitVec 4) : (s.setSw x).attn = s.attn := rfl
@[simp] theorem setSw_crit (s : State) (x : BitVec 4) : (s.setSw x).crit = s.crit := rfl
@[simp] theorem setSw_free (s : State) (x : BitVec 4) : (s.setSw x).free = s.free := rfl
@[simp] theorem setSw_pending (s : State) (x : BitVec 4) : (s.setSw x).pending = s.pending := rfl

/-! ### Fields after `State.setSup` -/

@[simp] theorem setSup_clk (s : State) (x : Supervisor) : (s.setSup x).clk = s.clk := rfl
@[simp] theorem setSup_ret (s : State) (x : Supervisor) : (s.setSup x).ret = s.ret := rfl
@[simp] theorem setSup_port (s : State) (x : Supervisor) : (s.setSup x).port = s.port := rfl
@[simp] theorem setSup_fl (s : State) (x : Supervisor) : (s.setSup x).fl = s.fl := rfl
@[simp] theorem setSup_hb (s : State) (x : Supervisor) : (s.setSup x).hb = s.hb := rfl
@[simp] theorem setSup_link (s : State) (x : Supervisor) : (s.setSup x).link = s.link := rfl
@[simp] theorem setSup_src (s : State) (x : Supervisor) : (s.setSup x).src = s.src := rfl
@[simp] theorem setSup_sw (s : State) (x : Supervisor) : (s.setSup x).sw = s.sw := rfl
@[simp] theorem setSup_sup (s : State) (x : Supervisor) : (s.setSup x).sup = x := rfl
@[simp] theorem setSup_ack (s : State) (x : Supervisor) : (s.setSup x).ack = s.ack := rfl
@[simp] theorem setSup_wd (s : State) (x : Supervisor) : (s.setSup x).wd = s.wd := rfl
@[simp] theorem setSup_jrn (s : State) (x : Supervisor) : (s.setSup x).jrn = s.jrn := rfl
@[simp] theorem setSup_arch (s : State) (x : Supervisor) : (s.setSup x).arch = s.arch := rfl
@[simp] theorem setSup_out (s : State) (x : Supervisor) : (s.setSup x).out = s.out := rfl
@[simp] theorem setSup_prof (s : State) (x : Supervisor) : (s.setSup x).prof = s.prof := rfl
@[simp] theorem setSup_nv (s : State) (x : Supervisor) : (s.setSup x).nv = s.nv := rfl
@[simp] theorem setSup_st (s : State) (x : Supervisor) : (s.setSup x).st = s.st := rfl
@[simp] theorem setSup_sel (s : State) (x : Supervisor) : (s.setSup x).sel = s.sel := rfl
@[simp] theorem setSup_attn (s : State) (x : Supervisor) : (s.setSup x).attn = s.attn := rfl
@[simp] theorem setSup_crit (s : State) (x : Supervisor) : (s.setSup x).crit = s.crit := rfl
@[simp] theorem setSup_free (s : State) (x : Supervisor) : (s.setSup x).free = s.free := rfl
@[simp] theorem setSup_pending (s : State) (x : Supervisor) : (s.setSup x).pending = s.pending := rfl

/-! ### Fields after `State.setAck` -/

@[simp] theorem setAck_clk (s : State) (x : AckUnit) : (s.setAck x).clk = s.clk := rfl
@[simp] theorem setAck_ret (s : State) (x : AckUnit) : (s.setAck x).ret = s.ret := rfl
@[simp] theorem setAck_port (s : State) (x : AckUnit) : (s.setAck x).port = s.port := rfl
@[simp] theorem setAck_fl (s : State) (x : AckUnit) : (s.setAck x).fl = s.fl := rfl
@[simp] theorem setAck_hb (s : State) (x : AckUnit) : (s.setAck x).hb = s.hb := rfl
@[simp] theorem setAck_link (s : State) (x : AckUnit) : (s.setAck x).link = s.link := rfl
@[simp] theorem setAck_src (s : State) (x : AckUnit) : (s.setAck x).src = s.src := rfl
@[simp] theorem setAck_sw (s : State) (x : AckUnit) : (s.setAck x).sw = s.sw := rfl
@[simp] theorem setAck_sup (s : State) (x : AckUnit) : (s.setAck x).sup = s.sup := rfl
@[simp] theorem setAck_ack (s : State) (x : AckUnit) : (s.setAck x).ack = x := rfl
@[simp] theorem setAck_wd (s : State) (x : AckUnit) : (s.setAck x).wd = s.wd := rfl
@[simp] theorem setAck_jrn (s : State) (x : AckUnit) : (s.setAck x).jrn = s.jrn := rfl
@[simp] theorem setAck_arch (s : State) (x : AckUnit) : (s.setAck x).arch = s.arch := rfl
@[simp] theorem setAck_out (s : State) (x : AckUnit) : (s.setAck x).out = s.out := rfl
@[simp] theorem setAck_prof (s : State) (x : AckUnit) : (s.setAck x).prof = s.prof := rfl
@[simp] theorem setAck_nv (s : State) (x : AckUnit) : (s.setAck x).nv = s.nv := rfl
@[simp] theorem setAck_st (s : State) (x : AckUnit) : (s.setAck x).st = s.st := rfl
@[simp] theorem setAck_sel (s : State) (x : AckUnit) : (s.setAck x).sel = s.sel := rfl
@[simp] theorem setAck_attn (s : State) (x : AckUnit) : (s.setAck x).attn = s.attn := rfl
@[simp] theorem setAck_crit (s : State) (x : AckUnit) : (s.setAck x).crit = s.crit := rfl
@[simp] theorem setAck_free (s : State) (x : AckUnit) : (s.setAck x).free = s.free := rfl
@[simp] theorem setAck_pending (s : State) (x : AckUnit) : (s.setAck x).pending = s.pending := rfl

/-! ### Fields after `State.setWd` -/

@[simp] theorem setWd_clk (s : State) (x : Watchdog) : (s.setWd x).clk = s.clk := rfl
@[simp] theorem setWd_ret (s : State) (x : Watchdog) : (s.setWd x).ret = s.ret := rfl
@[simp] theorem setWd_port (s : State) (x : Watchdog) : (s.setWd x).port = s.port := rfl
@[simp] theorem setWd_fl (s : State) (x : Watchdog) : (s.setWd x).fl = s.fl := rfl
@[simp] theorem setWd_hb (s : State) (x : Watchdog) : (s.setWd x).hb = s.hb := rfl
@[simp] theorem setWd_link (s : State) (x : Watchdog) : (s.setWd x).link = s.link := rfl
@[simp] theorem setWd_src (s : State) (x : Watchdog) : (s.setWd x).src = s.src := rfl
@[simp] theorem setWd_sw (s : State) (x : Watchdog) : (s.setWd x).sw = s.sw := rfl
@[simp] theorem setWd_sup (s : State) (x : Watchdog) : (s.setWd x).sup = s.sup := rfl
@[simp] theorem setWd_ack (s : State) (x : Watchdog) : (s.setWd x).ack = s.ack := rfl
@[simp] theorem setWd_wd (s : State) (x : Watchdog) : (s.setWd x).wd = x := rfl
@[simp] theorem setWd_jrn (s : State) (x : Watchdog) : (s.setWd x).jrn = s.jrn := rfl
@[simp] theorem setWd_arch (s : State) (x : Watchdog) : (s.setWd x).arch = s.arch := rfl
@[simp] theorem setWd_out (s : State) (x : Watchdog) : (s.setWd x).out = s.out := rfl
@[simp] theorem setWd_prof (s : State) (x : Watchdog) : (s.setWd x).prof = s.prof := rfl
@[simp] theorem setWd_nv (s : State) (x : Watchdog) : (s.setWd x).nv = s.nv := rfl
@[simp] theorem setWd_st (s : State) (x : Watchdog) : (s.setWd x).st = s.st := rfl
@[simp] theorem setWd_sel (s : State) (x : Watchdog) : (s.setWd x).sel = s.sel := rfl
@[simp] theorem setWd_attn (s : State) (x : Watchdog) : (s.setWd x).attn = s.attn := rfl
@[simp] theorem setWd_crit (s : State) (x : Watchdog) : (s.setWd x).crit = s.crit := rfl
@[simp] theorem setWd_free (s : State) (x : Watchdog) : (s.setWd x).free = s.free := rfl
@[simp] theorem setWd_pending (s : State) (x : Watchdog) : (s.setWd x).pending = s.pending := rfl

/-! ### Fields after `State.setJrn` -/

@[simp] theorem setJrn_clk (s : State) (x : Journal) : (s.setJrn x).clk = s.clk := rfl
@[simp] theorem setJrn_ret (s : State) (x : Journal) : (s.setJrn x).ret = s.ret := rfl
@[simp] theorem setJrn_port (s : State) (x : Journal) : (s.setJrn x).port = s.port := rfl
@[simp] theorem setJrn_fl (s : State) (x : Journal) : (s.setJrn x).fl = s.fl := rfl
@[simp] theorem setJrn_hb (s : State) (x : Journal) : (s.setJrn x).hb = s.hb := rfl
@[simp] theorem setJrn_link (s : State) (x : Journal) : (s.setJrn x).link = s.link := rfl
@[simp] theorem setJrn_src (s : State) (x : Journal) : (s.setJrn x).src = s.src := rfl
@[simp] theorem setJrn_sw (s : State) (x : Journal) : (s.setJrn x).sw = s.sw := rfl
@[simp] theorem setJrn_sup (s : State) (x : Journal) : (s.setJrn x).sup = s.sup := rfl
@[simp] theorem setJrn_ack (s : State) (x : Journal) : (s.setJrn x).ack = s.ack := rfl
@[simp] theorem setJrn_wd (s : State) (x : Journal) : (s.setJrn x).wd = s.wd := rfl
@[simp] theorem setJrn_jrn (s : State) (x : Journal) : (s.setJrn x).jrn = x := rfl
@[simp] theorem setJrn_arch (s : State) (x : Journal) : (s.setJrn x).arch = s.arch := rfl
@[simp] theorem setJrn_out (s : State) (x : Journal) : (s.setJrn x).out = s.out := rfl
@[simp] theorem setJrn_prof (s : State) (x : Journal) : (s.setJrn x).prof = s.prof := rfl
@[simp] theorem setJrn_nv (s : State) (x : Journal) : (s.setJrn x).nv = s.nv := rfl
@[simp] theorem setJrn_st (s : State) (x : Journal) : (s.setJrn x).st = s.st := rfl
@[simp] theorem setJrn_sel (s : State) (x : Journal) : (s.setJrn x).sel = s.sel := rfl
@[simp] theorem setJrn_attn (s : State) (x : Journal) : (s.setJrn x).attn = s.attn := rfl
@[simp] theorem setJrn_crit (s : State) (x : Journal) : (s.setJrn x).crit = s.crit := rfl
@[simp] theorem setJrn_free (s : State) (x : Journal) : (s.setJrn x).free = s.free := rfl
@[simp] theorem setJrn_pending (s : State) (x : Journal) : (s.setJrn x).pending = s.pending := rfl

/-! ### Fields after `State.setArch` -/

@[simp] theorem setArch_clk (s : State) (x : Archive) : (s.setArch x).clk = s.clk := rfl
@[simp] theorem setArch_ret (s : State) (x : Archive) : (s.setArch x).ret = s.ret := rfl
@[simp] theorem setArch_port (s : State) (x : Archive) : (s.setArch x).port = s.port := rfl
@[simp] theorem setArch_fl (s : State) (x : Archive) : (s.setArch x).fl = s.fl := rfl
@[simp] theorem setArch_hb (s : State) (x : Archive) : (s.setArch x).hb = s.hb := rfl
@[simp] theorem setArch_link (s : State) (x : Archive) : (s.setArch x).link = s.link := rfl
@[simp] theorem setArch_src (s : State) (x : Archive) : (s.setArch x).src = s.src := rfl
@[simp] theorem setArch_sw (s : State) (x : Archive) : (s.setArch x).sw = s.sw := rfl
@[simp] theorem setArch_sup (s : State) (x : Archive) : (s.setArch x).sup = s.sup := rfl
@[simp] theorem setArch_ack (s : State) (x : Archive) : (s.setArch x).ack = s.ack := rfl
@[simp] theorem setArch_wd (s : State) (x : Archive) : (s.setArch x).wd = s.wd := rfl
@[simp] theorem setArch_jrn (s : State) (x : Archive) : (s.setArch x).jrn = s.jrn := rfl
@[simp] theorem setArch_arch (s : State) (x : Archive) : (s.setArch x).arch = x := rfl
@[simp] theorem setArch_out (s : State) (x : Archive) : (s.setArch x).out = s.out := rfl
@[simp] theorem setArch_prof (s : State) (x : Archive) : (s.setArch x).prof = s.prof := rfl
@[simp] theorem setArch_nv (s : State) (x : Archive) : (s.setArch x).nv = s.nv := rfl
@[simp] theorem setArch_st (s : State) (x : Archive) : (s.setArch x).st = s.st := rfl
@[simp] theorem setArch_sel (s : State) (x : Archive) : (s.setArch x).sel = s.sel := rfl
@[simp] theorem setArch_attn (s : State) (x : Archive) : (s.setArch x).attn = s.attn := rfl
@[simp] theorem setArch_crit (s : State) (x : Archive) : (s.setArch x).crit = s.crit := rfl
@[simp] theorem setArch_free (s : State) (x : Archive) : (s.setArch x).free = s.free := rfl
@[simp] theorem setArch_pending (s : State) (x : Archive) : (s.setArch x).pending = s.pending := rfl

/-! ### Fields after `State.setOut` -/

@[simp] theorem setOut_clk (s : State) (x : Outputs) : (s.setOut x).clk = s.clk := rfl
@[simp] theorem setOut_ret (s : State) (x : Outputs) : (s.setOut x).ret = s.ret := rfl
@[simp] theorem setOut_port (s : State) (x : Outputs) : (s.setOut x).port = s.port := rfl
@[simp] theorem setOut_fl (s : State) (x : Outputs) : (s.setOut x).fl = s.fl := rfl
@[simp] theorem setOut_hb (s : State) (x : Outputs) : (s.setOut x).hb = s.hb := rfl
@[simp] theorem setOut_link (s : State) (x : Outputs) : (s.setOut x).link = s.link := rfl
@[simp] theorem setOut_src (s : State) (x : Outputs) : (s.setOut x).src = s.src := rfl
@[simp] theorem setOut_sw (s : State) (x : Outputs) : (s.setOut x).sw = s.sw := rfl
@[simp] theorem setOut_sup (s : State) (x : Outputs) : (s.setOut x).sup = s.sup := rfl
@[simp] theorem setOut_ack (s : State) (x : Outputs) : (s.setOut x).ack = s.ack := rfl
@[simp] theorem setOut_wd (s : State) (x : Outputs) : (s.setOut x).wd = s.wd := rfl
@[simp] theorem setOut_jrn (s : State) (x : Outputs) : (s.setOut x).jrn = s.jrn := rfl
@[simp] theorem setOut_arch (s : State) (x : Outputs) : (s.setOut x).arch = s.arch := rfl
@[simp] theorem setOut_out (s : State) (x : Outputs) : (s.setOut x).out = x := rfl
@[simp] theorem setOut_prof (s : State) (x : Outputs) : (s.setOut x).prof = s.prof := rfl
@[simp] theorem setOut_nv (s : State) (x : Outputs) : (s.setOut x).nv = s.nv := rfl
@[simp] theorem setOut_st (s : State) (x : Outputs) : (s.setOut x).st = s.st := rfl
@[simp] theorem setOut_sel (s : State) (x : Outputs) : (s.setOut x).sel = s.sel := rfl
@[simp] theorem setOut_attn (s : State) (x : Outputs) : (s.setOut x).attn = s.attn := rfl
@[simp] theorem setOut_crit (s : State) (x : Outputs) : (s.setOut x).crit = s.crit := rfl
@[simp] theorem setOut_free (s : State) (x : Outputs) : (s.setOut x).free = s.free := rfl
@[simp] theorem setOut_pending (s : State) (x : Outputs) : (s.setOut x).pending = s.pending := rfl

/-! ### Fields after `State.setProf` -/

@[simp] theorem setProf_clk (s : State) (x : ProfileStore) : (s.setProf x).clk = s.clk := rfl
@[simp] theorem setProf_ret (s : State) (x : ProfileStore) : (s.setProf x).ret = s.ret := rfl
@[simp] theorem setProf_port (s : State) (x : ProfileStore) : (s.setProf x).port = s.port := rfl
@[simp] theorem setProf_fl (s : State) (x : ProfileStore) : (s.setProf x).fl = s.fl := rfl
@[simp] theorem setProf_hb (s : State) (x : ProfileStore) : (s.setProf x).hb = s.hb := rfl
@[simp] theorem setProf_link (s : State) (x : ProfileStore) : (s.setProf x).link = s.link := rfl
@[simp] theorem setProf_src (s : State) (x : ProfileStore) : (s.setProf x).src = s.src := rfl
@[simp] theorem setProf_sw (s : State) (x : ProfileStore) : (s.setProf x).sw = s.sw := rfl
@[simp] theorem setProf_sup (s : State) (x : ProfileStore) : (s.setProf x).sup = s.sup := rfl
@[simp] theorem setProf_ack (s : State) (x : ProfileStore) : (s.setProf x).ack = s.ack := rfl
@[simp] theorem setProf_wd (s : State) (x : ProfileStore) : (s.setProf x).wd = s.wd := rfl
@[simp] theorem setProf_jrn (s : State) (x : ProfileStore) : (s.setProf x).jrn = s.jrn := rfl
@[simp] theorem setProf_arch (s : State) (x : ProfileStore) : (s.setProf x).arch = s.arch := rfl
@[simp] theorem setProf_out (s : State) (x : ProfileStore) : (s.setProf x).out = s.out := rfl
@[simp] theorem setProf_prof (s : State) (x : ProfileStore) : (s.setProf x).prof = x := rfl
@[simp] theorem setProf_nv (s : State) (x : ProfileStore) : (s.setProf x).nv = s.nv := rfl
@[simp] theorem setProf_st (s : State) (x : ProfileStore) : (s.setProf x).st = s.st := rfl
@[simp] theorem setProf_sel (s : State) (x : ProfileStore) : (s.setProf x).sel = s.sel := rfl
@[simp] theorem setProf_attn (s : State) (x : ProfileStore) : (s.setProf x).attn = s.attn := rfl
@[simp] theorem setProf_crit (s : State) (x : ProfileStore) : (s.setProf x).crit = s.crit := rfl
@[simp] theorem setProf_free (s : State) (x : ProfileStore) : (s.setProf x).free = s.free := rfl
@[simp] theorem setProf_pending (s : State) (x : ProfileStore) : (s.setProf x).pending = s.pending := rfl

/-! ### Fields after `State.setNv` -/

@[simp] theorem setNv_clk (s : State) (x : NvCtrl) : (s.setNv x).clk = s.clk := rfl
@[simp] theorem setNv_ret (s : State) (x : NvCtrl) : (s.setNv x).ret = s.ret := rfl
@[simp] theorem setNv_port (s : State) (x : NvCtrl) : (s.setNv x).port = s.port := rfl
@[simp] theorem setNv_fl (s : State) (x : NvCtrl) : (s.setNv x).fl = s.fl := rfl
@[simp] theorem setNv_hb (s : State) (x : NvCtrl) : (s.setNv x).hb = s.hb := rfl
@[simp] theorem setNv_link (s : State) (x : NvCtrl) : (s.setNv x).link = s.link := rfl
@[simp] theorem setNv_src (s : State) (x : NvCtrl) : (s.setNv x).src = s.src := rfl
@[simp] theorem setNv_sw (s : State) (x : NvCtrl) : (s.setNv x).sw = s.sw := rfl
@[simp] theorem setNv_sup (s : State) (x : NvCtrl) : (s.setNv x).sup = s.sup := rfl
@[simp] theorem setNv_ack (s : State) (x : NvCtrl) : (s.setNv x).ack = s.ack := rfl
@[simp] theorem setNv_wd (s : State) (x : NvCtrl) : (s.setNv x).wd = s.wd := rfl
@[simp] theorem setNv_jrn (s : State) (x : NvCtrl) : (s.setNv x).jrn = s.jrn := rfl
@[simp] theorem setNv_arch (s : State) (x : NvCtrl) : (s.setNv x).arch = s.arch := rfl
@[simp] theorem setNv_out (s : State) (x : NvCtrl) : (s.setNv x).out = s.out := rfl
@[simp] theorem setNv_prof (s : State) (x : NvCtrl) : (s.setNv x).prof = s.prof := rfl
@[simp] theorem setNv_nv (s : State) (x : NvCtrl) : (s.setNv x).nv = x := rfl
@[simp] theorem setNv_st (s : State) (x : NvCtrl) : (s.setNv x).st = s.st := rfl
@[simp] theorem setNv_sel (s : State) (x : NvCtrl) : (s.setNv x).sel = s.sel := rfl
@[simp] theorem setNv_attn (s : State) (x : NvCtrl) : (s.setNv x).attn = s.attn := rfl
@[simp] theorem setNv_crit (s : State) (x : NvCtrl) : (s.setNv x).crit = s.crit := rfl
@[simp] theorem setNv_free (s : State) (x : NvCtrl) : (s.setNv x).free = s.free := rfl
@[simp] theorem setNv_pending (s : State) (x : NvCtrl) : (s.setNv x).pending = s.pending := rfl

/-! ### Fields after `State.setSt` -/

@[simp] theorem setSt_clk (s : State) (x : SelfTest) : (s.setSt x).clk = s.clk := rfl
@[simp] theorem setSt_ret (s : State) (x : SelfTest) : (s.setSt x).ret = s.ret := rfl
@[simp] theorem setSt_port (s : State) (x : SelfTest) : (s.setSt x).port = s.port := rfl
@[simp] theorem setSt_fl (s : State) (x : SelfTest) : (s.setSt x).fl = s.fl := rfl
@[simp] theorem setSt_hb (s : State) (x : SelfTest) : (s.setSt x).hb = s.hb := rfl
@[simp] theorem setSt_link (s : State) (x : SelfTest) : (s.setSt x).link = s.link := rfl
@[simp] theorem setSt_src (s : State) (x : SelfTest) : (s.setSt x).src = s.src := rfl
@[simp] theorem setSt_sw (s : State) (x : SelfTest) : (s.setSt x).sw = s.sw := rfl
@[simp] theorem setSt_sup (s : State) (x : SelfTest) : (s.setSt x).sup = s.sup := rfl
@[simp] theorem setSt_ack (s : State) (x : SelfTest) : (s.setSt x).ack = s.ack := rfl
@[simp] theorem setSt_wd (s : State) (x : SelfTest) : (s.setSt x).wd = s.wd := rfl
@[simp] theorem setSt_jrn (s : State) (x : SelfTest) : (s.setSt x).jrn = s.jrn := rfl
@[simp] theorem setSt_arch (s : State) (x : SelfTest) : (s.setSt x).arch = s.arch := rfl
@[simp] theorem setSt_out (s : State) (x : SelfTest) : (s.setSt x).out = s.out := rfl
@[simp] theorem setSt_prof (s : State) (x : SelfTest) : (s.setSt x).prof = s.prof := rfl
@[simp] theorem setSt_nv (s : State) (x : SelfTest) : (s.setSt x).nv = s.nv := rfl
@[simp] theorem setSt_st (s : State) (x : SelfTest) : (s.setSt x).st = x := rfl
@[simp] theorem setSt_sel (s : State) (x : SelfTest) : (s.setSt x).sel = s.sel := rfl
@[simp] theorem setSt_attn (s : State) (x : SelfTest) : (s.setSt x).attn = s.attn := rfl
@[simp] theorem setSt_crit (s : State) (x : SelfTest) : (s.setSt x).crit = s.crit := rfl
@[simp] theorem setSt_free (s : State) (x : SelfTest) : (s.setSt x).free = s.free := rfl
@[simp] theorem setSt_pending (s : State) (x : SelfTest) : (s.setSt x).pending = s.pending := rfl

/-! ### Fields after `State.setSel` -/

@[simp] theorem setSel_clk (s : State) (x : Selectors) : (s.setSel x).clk = s.clk := rfl
@[simp] theorem setSel_ret (s : State) (x : Selectors) : (s.setSel x).ret = s.ret := rfl
@[simp] theorem setSel_port (s : State) (x : Selectors) : (s.setSel x).port = s.port := rfl
@[simp] theorem setSel_fl (s : State) (x : Selectors) : (s.setSel x).fl = s.fl := rfl
@[simp] theorem setSel_hb (s : State) (x : Selectors) : (s.setSel x).hb = s.hb := rfl
@[simp] theorem setSel_link (s : State) (x : Selectors) : (s.setSel x).link = s.link := rfl
@[simp] theorem setSel_src (s : State) (x : Selectors) : (s.setSel x).src = s.src := rfl
@[simp] theorem setSel_sw (s : State) (x : Selectors) : (s.setSel x).sw = s.sw := rfl
@[simp] theorem setSel_sup (s : State) (x : Selectors) : (s.setSel x).sup = s.sup := rfl
@[simp] theorem setSel_ack (s : State) (x : Selectors) : (s.setSel x).ack = s.ack := rfl
@[simp] theorem setSel_wd (s : State) (x : Selectors) : (s.setSel x).wd = s.wd := rfl
@[simp] theorem setSel_jrn (s : State) (x : Selectors) : (s.setSel x).jrn = s.jrn := rfl
@[simp] theorem setSel_arch (s : State) (x : Selectors) : (s.setSel x).arch = s.arch := rfl
@[simp] theorem setSel_out (s : State) (x : Selectors) : (s.setSel x).out = s.out := rfl
@[simp] theorem setSel_prof (s : State) (x : Selectors) : (s.setSel x).prof = s.prof := rfl
@[simp] theorem setSel_nv (s : State) (x : Selectors) : (s.setSel x).nv = s.nv := rfl
@[simp] theorem setSel_st (s : State) (x : Selectors) : (s.setSel x).st = s.st := rfl
@[simp] theorem setSel_sel (s : State) (x : Selectors) : (s.setSel x).sel = x := rfl
@[simp] theorem setSel_attn (s : State) (x : Selectors) : (s.setSel x).attn = s.attn := rfl
@[simp] theorem setSel_crit (s : State) (x : Selectors) : (s.setSel x).crit = s.crit := rfl
@[simp] theorem setSel_free (s : State) (x : Selectors) : (s.setSel x).free = s.free := rfl
@[simp] theorem setSel_pending (s : State) (x : Selectors) : (s.setSel x).pending = s.pending := rfl

/-! ### Fields after `State.setAttn` -/

@[simp] theorem setAttn_clk (s : State) (x : Attn) : (s.setAttn x).clk = s.clk := rfl
@[simp] theorem setAttn_ret (s : State) (x : Attn) : (s.setAttn x).ret = s.ret := rfl
@[simp] theorem setAttn_port (s : State) (x : Attn) : (s.setAttn x).port = s.port := rfl
@[simp] theorem setAttn_fl (s : State) (x : Attn) : (s.setAttn x).fl = s.fl := rfl
@[simp] theorem setAttn_hb (s : State) (x : Attn) : (s.setAttn x).hb = s.hb := rfl
@[simp] theorem setAttn_link (s : State) (x : Attn) : (s.setAttn x).link = s.link := rfl
@[simp] theorem setAttn_src (s : State) (x : Attn) : (s.setAttn x).src = s.src := rfl
@[simp] theorem setAttn_sw (s : State) (x : Attn) : (s.setAttn x).sw = s.sw := rfl
@[simp] theorem setAttn_sup (s : State) (x : Attn) : (s.setAttn x).sup = s.sup := rfl
@[simp] theorem setAttn_ack (s : State) (x : Attn) : (s.setAttn x).ack = s.ack := rfl
@[simp] theorem setAttn_wd (s : State) (x : Attn) : (s.setAttn x).wd = s.wd := rfl
@[simp] theorem setAttn_jrn (s : State) (x : Attn) : (s.setAttn x).jrn = s.jrn := rfl
@[simp] theorem setAttn_arch (s : State) (x : Attn) : (s.setAttn x).arch = s.arch := rfl
@[simp] theorem setAttn_out (s : State) (x : Attn) : (s.setAttn x).out = s.out := rfl
@[simp] theorem setAttn_prof (s : State) (x : Attn) : (s.setAttn x).prof = s.prof := rfl
@[simp] theorem setAttn_nv (s : State) (x : Attn) : (s.setAttn x).nv = s.nv := rfl
@[simp] theorem setAttn_st (s : State) (x : Attn) : (s.setAttn x).st = s.st := rfl
@[simp] theorem setAttn_sel (s : State) (x : Attn) : (s.setAttn x).sel = s.sel := rfl
@[simp] theorem setAttn_attn (s : State) (x : Attn) : (s.setAttn x).attn = x := rfl
@[simp] theorem setAttn_crit (s : State) (x : Attn) : (s.setAttn x).crit = s.crit := rfl
@[simp] theorem setAttn_free (s : State) (x : Attn) : (s.setAttn x).free = s.free := rfl
@[simp] theorem setAttn_pending (s : State) (x : Attn) : (s.setAttn x).pending = s.pending := rfl

/-! ### Fields after `State.setCrit` -/

@[simp] theorem setCrit_clk (s : State) (x : Bool) : (s.setCrit x).clk = s.clk := rfl
@[simp] theorem setCrit_ret (s : State) (x : Bool) : (s.setCrit x).ret = s.ret := rfl
@[simp] theorem setCrit_port (s : State) (x : Bool) : (s.setCrit x).port = s.port := rfl
@[simp] theorem setCrit_fl (s : State) (x : Bool) : (s.setCrit x).fl = s.fl := rfl
@[simp] theorem setCrit_hb (s : State) (x : Bool) : (s.setCrit x).hb = s.hb := rfl
@[simp] theorem setCrit_link (s : State) (x : Bool) : (s.setCrit x).link = s.link := rfl
@[simp] theorem setCrit_src (s : State) (x : Bool) : (s.setCrit x).src = s.src := rfl
@[simp] theorem setCrit_sw (s : State) (x : Bool) : (s.setCrit x).sw = s.sw := rfl
@[simp] theorem setCrit_sup (s : State) (x : Bool) : (s.setCrit x).sup = s.sup := rfl
@[simp] theorem setCrit_ack (s : State) (x : Bool) : (s.setCrit x).ack = s.ack := rfl
@[simp] theorem setCrit_wd (s : State) (x : Bool) : (s.setCrit x).wd = s.wd := rfl
@[simp] theorem setCrit_jrn (s : State) (x : Bool) : (s.setCrit x).jrn = s.jrn := rfl
@[simp] theorem setCrit_arch (s : State) (x : Bool) : (s.setCrit x).arch = s.arch := rfl
@[simp] theorem setCrit_out (s : State) (x : Bool) : (s.setCrit x).out = s.out := rfl
@[simp] theorem setCrit_prof (s : State) (x : Bool) : (s.setCrit x).prof = s.prof := rfl
@[simp] theorem setCrit_nv (s : State) (x : Bool) : (s.setCrit x).nv = s.nv := rfl
@[simp] theorem setCrit_st (s : State) (x : Bool) : (s.setCrit x).st = s.st := rfl
@[simp] theorem setCrit_sel (s : State) (x : Bool) : (s.setCrit x).sel = s.sel := rfl
@[simp] theorem setCrit_attn (s : State) (x : Bool) : (s.setCrit x).attn = s.attn := rfl
@[simp] theorem setCrit_crit (s : State) (x : Bool) : (s.setCrit x).crit = x := rfl
@[simp] theorem setCrit_free (s : State) (x : Bool) : (s.setCrit x).free = s.free := rfl
@[simp] theorem setCrit_pending (s : State) (x : Bool) : (s.setCrit x).pending = s.pending := rfl

/-! ### Fields after `State.setFree` -/

@[simp] theorem setFree_clk (s : State) (x : Nat) : (s.setFree x).clk = s.clk := rfl
@[simp] theorem setFree_ret (s : State) (x : Nat) : (s.setFree x).ret = s.ret := rfl
@[simp] theorem setFree_port (s : State) (x : Nat) : (s.setFree x).port = s.port := rfl
@[simp] theorem setFree_fl (s : State) (x : Nat) : (s.setFree x).fl = s.fl := rfl
@[simp] theorem setFree_hb (s : State) (x : Nat) : (s.setFree x).hb = s.hb := rfl
@[simp] theorem setFree_link (s : State) (x : Nat) : (s.setFree x).link = s.link := rfl
@[simp] theorem setFree_src (s : State) (x : Nat) : (s.setFree x).src = s.src := rfl
@[simp] theorem setFree_sw (s : State) (x : Nat) : (s.setFree x).sw = s.sw := rfl
@[simp] theorem setFree_sup (s : State) (x : Nat) : (s.setFree x).sup = s.sup := rfl
@[simp] theorem setFree_ack (s : State) (x : Nat) : (s.setFree x).ack = s.ack := rfl
@[simp] theorem setFree_wd (s : State) (x : Nat) : (s.setFree x).wd = s.wd := rfl
@[simp] theorem setFree_jrn (s : State) (x : Nat) : (s.setFree x).jrn = s.jrn := rfl
@[simp] theorem setFree_arch (s : State) (x : Nat) : (s.setFree x).arch = s.arch := rfl
@[simp] theorem setFree_out (s : State) (x : Nat) : (s.setFree x).out = s.out := rfl
@[simp] theorem setFree_prof (s : State) (x : Nat) : (s.setFree x).prof = s.prof := rfl
@[simp] theorem setFree_nv (s : State) (x : Nat) : (s.setFree x).nv = s.nv := rfl
@[simp] theorem setFree_st (s : State) (x : Nat) : (s.setFree x).st = s.st := rfl
@[simp] theorem setFree_sel (s : State) (x : Nat) : (s.setFree x).sel = s.sel := rfl
@[simp] theorem setFree_attn (s : State) (x : Nat) : (s.setFree x).attn = s.attn := rfl
@[simp] theorem setFree_crit (s : State) (x : Nat) : (s.setFree x).crit = s.crit := rfl
@[simp] theorem setFree_free (s : State) (x : Nat) : (s.setFree x).free = x := rfl
@[simp] theorem setFree_pending (s : State) (x : Nat) : (s.setFree x).pending = s.pending := rfl

/-! ### Fields after `State.setPending` -/

@[simp] theorem setPending_clk (s : State) (x : List Instr) : (s.setPending x).clk = s.clk := rfl
@[simp] theorem setPending_ret (s : State) (x : List Instr) : (s.setPending x).ret = s.ret := rfl
@[simp] theorem setPending_port (s : State) (x : List Instr) : (s.setPending x).port = s.port := rfl
@[simp] theorem setPending_fl (s : State) (x : List Instr) : (s.setPending x).fl = s.fl := rfl
@[simp] theorem setPending_hb (s : State) (x : List Instr) : (s.setPending x).hb = s.hb := rfl
@[simp] theorem setPending_link (s : State) (x : List Instr) : (s.setPending x).link = s.link := rfl
@[simp] theorem setPending_src (s : State) (x : List Instr) : (s.setPending x).src = s.src := rfl
@[simp] theorem setPending_sw (s : State) (x : List Instr) : (s.setPending x).sw = s.sw := rfl
@[simp] theorem setPending_sup (s : State) (x : List Instr) : (s.setPending x).sup = s.sup := rfl
@[simp] theorem setPending_ack (s : State) (x : List Instr) : (s.setPending x).ack = s.ack := rfl
@[simp] theorem setPending_wd (s : State) (x : List Instr) : (s.setPending x).wd = s.wd := rfl
@[simp] theorem setPending_jrn (s : State) (x : List Instr) : (s.setPending x).jrn = s.jrn := rfl
@[simp] theorem setPending_arch (s : State) (x : List Instr) : (s.setPending x).arch = s.arch := rfl
@[simp] theorem setPending_out (s : State) (x : List Instr) : (s.setPending x).out = s.out := rfl
@[simp] theorem setPending_prof (s : State) (x : List Instr) : (s.setPending x).prof = s.prof := rfl
@[simp] theorem setPending_nv (s : State) (x : List Instr) : (s.setPending x).nv = s.nv := rfl
@[simp] theorem setPending_st (s : State) (x : List Instr) : (s.setPending x).st = s.st := rfl
@[simp] theorem setPending_sel (s : State) (x : List Instr) : (s.setPending x).sel = s.sel := rfl
@[simp] theorem setPending_attn (s : State) (x : List Instr) : (s.setPending x).attn = s.attn := rfl
@[simp] theorem setPending_crit (s : State) (x : List Instr) : (s.setPending x).crit = s.crit := rfl
@[simp] theorem setPending_free (s : State) (x : List Instr) : (s.setPending x).free = s.free := rfl
@[simp] theorem setPending_pending (s : State) (x : List Instr) : (s.setPending x).pending = x := rfl

end Sys2Proof.Machine
end

