-- ==== Sys2Proof/Laws/Frames.lean ====
section
/-!
SUPPORT. Frames: for every shared operation, the parts of the state that it can change. Frames compose by `onlyParts.trans`
and weaken by `onlyParts.mono`.
-/

namespace Sys2Proof.Machine

/-! ### The algebra of frames -/

theorem onlyParts.refl (l : List Part) (s : State) : onlyParts l s s := by
  intro p _
  cases p <;> rfl

theorem samePart.trans {p : Part} {s t u : State} (h1 : samePart p s t) (h2 : samePart p t u) : samePart p s u := by
  cases p <;> exact Eq.trans h2 h1

theorem onlyParts.trans {l : List Part} {s t u : State} (h1 : onlyParts l s t) (h2 : onlyParts l t u) :
    onlyParts l s u := fun p hp => (h1 p hp).trans (h2 p hp)

theorem onlyParts.mono {l l' : List Part} {s t : State} (h : onlyParts l s t)
    (hs : (l.all (fun p => decide (p ∈ l'))) = true := by decide) : onlyParts l' s t := by
  intro p hp
  refine h p (fun hl => hp ?_)
  have := List.all_eq_true.mp hs p hl
  simpa using this

theorem onlyParts.ite {l : List Part} {s t u : State} (c : Prop) [Decidable c] (h1 : onlyParts l s t)
    (h2 : onlyParts l s u) : onlyParts l s (if c then t else u) := by
  split
  · exact h1
  · exact h2

/-- A further step taken only under a condition. -/
theorem onlyParts.also {l : List Part} {s t u : State} (c : Prop) [Decidable c] (h1 : onlyParts l s t)
    (h2 : onlyParts l t u) : onlyParts l s (if c then u else t) := by
  split
  · exact h1.trans h2
  · exact h1

theorem onlyParts.foldl {α : Type} {l : List Part} {f : State → α → State} (h : ∀ s a, onlyParts l s (f s a))
    (xs : List α) (s : State) : onlyParts l s (xs.foldl f s) := by
  induction xs generalizing s with
  | nil => exact onlyParts.refl l s
  | cons a xs ih => exact (h s a).trans (ih (f s a))

/-- A part that is not listed is the same before and after. -/
theorem onlyParts.same {l : List Part} {s t : State} (h : onlyParts l s t) (p : Part)
    (hp : decide (p ∈ l) = false := by decide) : samePart p s t := h p (by simpa using hp)

/-! ### One field replaced -/

theorem only_setClk (s : State) (x : Clock) : onlyParts [.clk] s (s.setClk x) := by
  intro p hp
  cases p <;> first | rfl | exact absurd (by simp) hp

theorem only_setRet (s : State) (x : Retained) : onlyParts [.ret] s (s.setRet x) := by
  intro p hp
  cases p <;> first | rfl | exact absurd (by simp) hp

theorem only_setPort (s : State) (x : HostPort) : onlyParts [.port] s (s.setPort x) := by
  intro p hp
  cases p <;> first | rfl | exact absurd (by simp) hp

theorem only_setFl (s : State) (x : Vector FlUnit 16) : onlyParts [.fl] s (s.setFl x) := by
  intro p hp
  cases p <;> first | rfl | exact absurd (by simp) hp

theorem only_setHb (s : State) (x : Vector HbUnit 4) : onlyParts [.hb] s (s.setHb x) := by
  intro p hp
  cases p <;> first | rfl | exact absurd (by simp) hp

theorem only_setLink (s : State) (x : Link) : onlyParts [.link] s (s.setLink x) := by
  intro p hp
  cases p <;> first | rfl | exact absurd (by simp) hp

theorem only_setSrc (s : State) (x : Vector SrcRec 56) : onlyParts [.src] s (s.setSrc x) := by
  intro p hp
  cases p <;> first | rfl | exact absurd (by simp) hp

theorem only_setSw (s : State) (x : BitVec 4) : onlyParts [.sw] s (s.setSw x) := by
  intro p hp
  cases p <;> first | rfl | exact absurd (by simp) hp

theorem only_setSup (s : State) (x : Supervisor) : onlyParts [.sup] s (s.setSup x) := by
  intro p hp
  cases p <;> first | rfl | exact absurd (by simp) hp

theorem only_setAck (s : State) (x : AckUnit) : onlyParts [.ack] s (s.setAck x) := by
  intro p hp
  cases p <;> first | rfl | exact absurd (by simp) hp

theorem only_setWd (s : State) (x : Watchdog) : onlyParts [.wd] s (s.setWd x) := by
  intro p hp
  cases p <;> first | rfl | exact absurd (by simp) hp

theorem only_setJrn (s : State) (x : Journal) : onlyParts [.jrn] s (s.setJrn x) := by
  intro p hp
  cases p <;> first | rfl | exact absurd (by simp) hp

theorem only_setArch (s : State) (x : Archive) : onlyParts [.arch] s (s.setArch x) := by
  intro p hp
  cases p <;> first | rfl | exact absurd (by simp) hp

theorem only_setOut (s : State) (x : Outputs) : onlyParts [.out] s (s.setOut x) := by
  intro p hp
  cases p <;> first | rfl | exact absurd (by simp) hp

theorem only_setProf (s : State) (x : ProfileStore) : onlyParts [.prof] s (s.setProf x) := by
  intro p hp
  cases p <;> first | rfl | exact absurd (by simp) hp

theorem only_setNv (s : State) (x : NvCtrl) : onlyParts [.nv] s (s.setNv x) := by
  intro p hp
  cases p <;> first | rfl | exact absurd (by simp) hp

theorem only_setSt (s : State) (x : SelfTest) : onlyParts [.st] s (s.setSt x) := by
  intro p hp
  cases p <;> first | rfl | exact absurd (by simp) hp

theorem only_setSel (s : State) (x : Selectors) : onlyParts [.sel] s (s.setSel x) := by
  intro p hp
  cases p <;> first | rfl | exact absurd (by simp) hp

theorem only_setAttn (s : State) (x : Attn) : onlyParts [.attn] s (s.setAttn x) := by
  intro p hp
  cases p <;> first | rfl | exact absurd (by simp) hp

theorem only_setCrit (s : State) (x : Bool) : onlyParts [.crit] s (s.setCrit x) := by
  intro p hp
  cases p <;> first | rfl | exact absurd (by simp) hp

theorem only_setFree (s : State) (x : Nat) : onlyParts [.free] s (s.setFree x) := by
  intro p hp
  cases p <;> first | rfl | exact absurd (by simp) hp

theorem only_setPending (s : State) (x : List Instr) : onlyParts [.pending] s (s.setPending x) := by
  intro p hp
  cases p <;> first | rfl | exact absurd (by simp) hp

end Sys2Proof.Machine
end

