-- ==== Sys2Proof/Laws/OpFrames.lean ====
section
/-!
SUPPORT. The frame of every shared operation of the Supervisor, the NV Controller, the sessions, Stage B and the end of INIT:
what each can change, stated once.
-/

namespace Sys2Proof.Machine

set_option Elab.async false

/-! ### The journal, sessions and the NV Controller -/

theorem only_writeRec (b : RecBody) (s : State) : onlyParts [.jrn] s (writeRec b s) := only_setJrn _ _

theorem only_cancelUnlock (s : State) : onlyParts [.prof] s (cancelUnlock s) := by
  unfold cancelUnlock
  split
  · exact only_setProf _ _
  · exact .refl _ _

theorem only_changeState (x : SupState) (s : State) : onlyParts [.sup, .jrn, .prof] s (changeState x s) :=
  (((only_setSup _ _).mono).trans ((only_writeRec _ _).mono)).trans ((only_cancelUnlock _).mono)

theorem only_drawBit (s : State) : onlyParts [.free] s (drawBit s).2 := only_setFree _ _

theorem only_drawNat (s : State) : onlyParts [.free] s (drawNat s).2 := only_setFree _ _

theorem only_nvStart (op : NvOp) (s : State) : onlyParts [.prof] s (nvStart op s) := by
  cases op
  case commit => exact only_setProf _ _
  all_goals exact .refl _ _

theorem only_nvBegin (s : State) : onlyParts [.nv, .prof] s (nvBegin s) := by
  unfold nvBegin
  split
  · exact ((only_setNv _ _).mono).trans ((only_nvStart _ _).mono)
  · exact .refl _ _

theorem only_nvRequest (op : NvOp) (s : State) : onlyParts [.nv, .prof] s (nvRequest op s) :=
  ((only_setNv _ _).mono).trans (only_nvBegin _)

theorem only_nvFinish (s : State) : onlyParts [.nv, .prof] s (nvFinish s) :=
  ((only_setNv _ _).mono).trans (only_nvBegin _)

theorem only_cutCommit (b : BankId) (s : State) : onlyParts [.prof, .free] s (cutCommit b s) :=
  ((only_drawBit s).mono).trans ((only_setProf _ _).mono)

theorem only_nvDropCommit (s : State) : onlyParts [.nv, .prof, .free] s (nvDropCommit s) := by
  unfold nvDropCommit
  simp only []
  split
  · exact (((only_setNv _ _).mono).trans ((only_cutCommit _ _).mono)).trans ((only_nvFinish _).mono)
  · exact (only_setNv _ _).mono

theorem only_abandonCommit (s : State) : onlyParts [.nv, .prof, .free] s (abandonCommit s) := by
  unfold abandonCommit
  split
  · exact ((only_setProf _ _).mono).trans (only_nvDropCommit _)
  · exact .refl _ _

theorem only_closeSession (s : State) : onlyParts [.prof] s (closeSession s) := only_setProf _ _

theorem only_endWith (b : RecBody) (s : State) :
    onlyParts [.jrn, .nv, .prof, .free] s (abandonCommit (writeRec b (closeSession s))) :=
  (((only_closeSession s).mono).trans ((only_writeRec _ _).mono)).trans ((only_abandonCommit _).mono)

theorem only_abortSession (s : State) : onlyParts [.jrn, .nv, .prof, .free] s (abortSession s) :=
  .ite _ (only_endWith _ s) (.refl _ _)

theorem only_timeoutSession (s : State) : onlyParts [.jrn, .nv, .prof, .free] s (timeoutSession s) := only_endWith _ s

theorem only_nvInterrupt (s : State) : onlyParts [.arch, .prof, .free] s (nvInterrupt s) := by
  unfold nvInterrupt
  split
  · exact .refl _ _
  · exact .refl _ _
  · exact ((only_drawNat s).mono).trans ((only_setArch _ _).mono)
  · exact .foldl (fun s i => ((only_drawNat s).mono).trans ((only_setArch _ _).mono)) _ _
  · exact (only_cutCommit _ _).mono

/-! ### The Supervisor -/

theorem only_beginEpisode (i : SrcId) (s : State) : onlyParts [.sup] s (beginEpisode i s) := only_setSup _ _

theorem only_endEpisode (s : State) : onlyParts [.sup, .ack] s (endEpisode s) :=
  ((only_setSup _ _).mono).trans ((only_setAck _ _).mono)

theorem only_dropAlarms (g : Alarm → Bool) (s : State) : onlyParts [.sup, .jrn, .prof, .ack] s (dropAlarms g s) := by
  unfold dropAlarms
  simp only []
  exact .ite _ ((((only_setSup _ _).mono).trans ((only_changeState _ _).mono)).trans ((only_endEpisode _).mono))
    ((only_setSup _ _).mono)

theorem only_pulseBegin (e : Tick) (s : State) : onlyParts [.sup, .ack, .wd] s (pulseBegin e s) :=
  (((only_setSup _ _).mono).trans ((only_setAck _ _).mono)).trans ((only_setWd _ _).mono)

theorem only_pulseOver (s : State) : onlyParts [.sup, .ack, .wd] s (pulseOver s) :=
  (((only_setSup _ _).mono).trans ((only_setAck _ _).mono)).trans ((only_setWd _ _).mono)

theorem only_mergePlan (n : Fin 8) (s : State) : onlyParts [.sup, .out] s (mergePlan n s) :=
  ((only_setSup _ _).mono).trans ((only_setOut _ _).mono)

theorem only_createRequest (q : Word) (s : State) : onlyParts [.ack] s (createRequest q s) := only_setAck _ _

theorem only_enterSafe (n : Fin 8) (i : SrcId) (s : State) :
    onlyParts [.sup, .jrn, .prof, .out, .ack, .nv, .free] s (enterSafe n i s) := by
  unfold enterSafe
  simp only []
  exact .trans (.also _ (.trans (.trans (.trans (only_setSup _ _).mono (only_changeState _ _).mono)
    (only_setSup _ _).mono) (only_mergePlan _ _).mono) (only_createRequest _ _).mono) (only_abortSession _).mono

theorem only_enterLockdown (s : State) : onlyParts supParts s (enterLockdown s) := by
  unfold enterLockdown
  simp only []
  exact .trans (.trans (.trans (.trans (.trans (.trans (.trans (only_changeState _ _).mono (only_setAck _ _).mono)
    (only_setSup _ _).mono) (only_setOut _ _).mono) (only_abortSession _).mono) (only_setRet _ _).mono)
    (only_nvRequest _ _).mono) (only_setWd _ _).mono

theorem only_escalationPulse (s : State) : onlyParts [.sup, .ack, .wd] s (escalationPulse s) := by
  unfold escalationPulse
  split
  · exact only_pulseBegin _ _
  · exact only_pulseBegin _ _
  · exact (only_setSup _ _).mono

theorem only_escalationAction (l : BitVec 2) (q : Word) (s : State) :
    onlyParts supParts s (escalationAction l q s) := by
  unfold escalationAction
  split
  · exact .refl _ _
  · exact .trans (only_mergePlan _ _).mono (only_createRequest _ _).mono
  · exact .trans (only_escalationPulse _).mono (only_createRequest _ _).mono
  · exact only_enterLockdown _

theorem only_escalate (s : State) : onlyParts supParts s (escalate s) :=
  .trans (.trans (only_setAck _ _).mono (only_writeRec _ _).mono) (only_escalationAction _ _ _)

theorem only_abortSelftest (s : State) : onlyParts [.st] s (abortSelftest s) :=
  .ite _ (only_setSt _ _) (.refl _ _)

theorem only_episodeIfNormal (i : SrcId) (s : State) : onlyParts [.sup] s (episodeIfNormal i s) :=
  .ite _ (only_beginEpisode _ _) (.refl _ _)

theorem only_dispatchAlarm (o : Occ) (s : State) : onlyParts supParts s (dispatchAlarm o s) := by
  unfold dispatchAlarm
  simp only []
  refine .ite _ ?_ ?_
  · exact .trans (.trans (.trans (only_episodeIfNormal _ _).mono (only_writeRec _ _).mono) (only_setSup _ _).mono)
      (only_changeState _ _).mono
  · exact .trans (.trans (only_episodeIfNormal _ _).mono (only_writeRec _ _).mono) (only_setSup _ _).mono

theorem only_dispatchExhausted (o : Occ) (s : State) : onlyParts supParts s (dispatchExhausted o s) := by
  unfold dispatchExhausted
  simp only []
  exact .trans (.trans (.trans (only_episodeIfNormal _ _).mono (only_writeRec _ _).mono) (only_setSup _ _).mono)
    (only_enterSafe _ _ _).mono

theorem only_dispatchCritical (o : Occ) (s : State) : onlyParts supParts s (dispatchCritical o s) :=
  .trans (.trans (only_episodeIfNormal _ _).mono (only_writeRec _ _).mono) (only_enterSafe _ _ _).mono

theorem only_dispatchCalm (o : Occ) (s : State) : onlyParts supParts s (dispatchCalm o s) := by
  unfold dispatchCalm
  split
  · exact (only_writeRec _ _).mono
  · exact .ite _ (.trans (only_abortSelftest _).mono (only_dispatchAlarm _ _))
      (.trans (only_abortSelftest _).mono (only_dispatchExhausted _ _))
  · exact .trans (only_abortSelftest _).mono (only_dispatchCritical _ _)

theorem only_dispatchMerge (o : Occ) (s : State) : onlyParts supParts s (dispatchMerge o s) := by
  have h : onlyParts supParts s (abortSession
      (if mergeRequests o s (mergePlan o.plan (writeRec (raiseBody o false) s)) = true then
        createRequest s.jrn.seq (mergePlan o.plan (writeRec (raiseBody o false) s))
      else mergePlan o.plan (writeRec (raiseBody o false) s))) :=
    .trans (.also _ (.trans (only_writeRec _ _).mono (only_mergePlan _ _).mono) (only_createRequest _ _).mono)
      (only_abortSession _).mono
  exact .also _ h (only_escalate _)

theorem only_dispatchSafe (o : Occ) (s : State) : onlyParts supParts s (dispatchSafe o s) := by
  unfold dispatchSafe
  split
  · exact (only_writeRec _ _).mono
  · exact .trans (only_abortSelftest _).mono (only_writeRec _ _).mono
  · exact .trans (only_abortSelftest _).mono (only_dispatchMerge _ _)

/-- A dispatch changes the Supervisor and what it reaches, and nothing else (R82, R83, R84). -/
theorem only_dispatch (o : Occ) (s : State) : onlyParts supParts s (dispatch o s) := by
  unfold dispatch
  split
  · exact only_dispatchCalm _ _
  · exact only_dispatchCalm _ _
  · exact only_dispatchSafe _ _
  · exact (only_writeRec _ _).mono
  · exact .refl _ _
  · exact .refl _ _
  · exact .refl _ _

theorem only_release (s : State) : onlyParts [.sup, .jrn, .prof, .ack] s (release s) :=
  .trans (.trans (only_changeState _ _).mono (only_setSup _ _).mono) (only_endEpisode _).mono

theorem only_acknowledge (tok : Byte) (s : State) : onlyParts supParts s (acknowledge tok s).2 := by
  unfold acknowledge
  split
  · exact .refl _ _
  · split
    · exact .trans (only_setAck _ _).mono (only_writeRec _ _).mono
    · split
      · exact .trans (only_setAck _ _).mono (only_escalate _)
      · exact (only_setAck _ _).mono

/-! ### Stage D, categories 1 to 7 -/

theorem only_stepExpiry (s : State) : onlyParts supParts s (stepExpiry s) := by
  unfold stepExpiry
  split
  · exact .refl _ _
  · exact .ite _ (.trans (only_writeRec _ _).mono (only_enterSafe _ _ _).mono) (.refl _ _)

theorem only_stepDeadline (s : State) : onlyParts supParts s (stepDeadline s) :=
  .ite _ (.trans (only_setAck _ _).mono (only_escalate _)) (.refl _ _)

theorem only_stepPulseStart (s : State) : onlyParts [.sup, .ack, .wd] s (stepPulseStart s) := by
  unfold stepPulseStart
  split
  · exact .ite _ (only_pulseBegin _ _) (.refl _ _)
  · exact .refl _ _
  · exact .refl _ _

theorem only_stepPulseEnd (s : State) : onlyParts [.sup, .ack, .wd] s (stepPulseEnd s) := by
  unfold stepPulseEnd
  split
  · exact .ite _ (only_pulseOver _) (.refl _ _)
  · exact .refl _ _
  · exact .refl _ _

theorem only_stepCut (s : State) : onlyParts [.sup] s (stepCut s) := by
  unfold stepCut
  split
  · exact .ite _ (only_setSup _ _) (.refl _ _)
  · exact .refl _ _
  · exact .refl _ _

theorem only_stepActions (s : State) : onlyParts [.sup, .ack, .wd] s (stepActions s) :=
  .trans (.trans (only_stepPulseEnd _) (only_stepPulseStart _)) (only_stepCut _).mono

theorem only_stepDwell (s : State) : onlyParts [.sup] s (stepDwell s) := by
  unfold stepDwell
  split
  · exact .refl _ _
  · exact .ite _ (only_setSup _ _) (.refl _ _)

theorem only_stepEpMin (s : State) : onlyParts [.out] s (stepEpMin s) := by
  unfold stepEpMin
  split
  · exact .refl _ _
  · exact .ite _ (only_setOut _ _) (.refl _ _)

theorem only_stepAutoRelease (s : State) : onlyParts [.sup, .jrn, .prof, .ack] s (stepAutoRelease s) :=
  .ite _ (only_release _) (.refl _ _)

/-! ### Resets, INIT, the self-test, STANDBY and WAKING -/

theorem only_armHeartbeats (s : State) : onlyParts [.hb] s (armHeartbeats s) := only_setHb _ _

theorem only_latchBoot (i : SrcId) (d : Byte) (s : State) : onlyParts [.src] s (latchBoot i d s) := only_setSrc _ _

theorem only_latchProfile (s : State) : onlyParts [.src] s (latchProfile s) :=
  .ite _ (only_latchBoot _ _ _) (.refl _ _)

theorem only_latchSelftest (s : State) : onlyParts [.src] s (latchSelftest s) := by
  unfold latchSelftest
  split
  · exact only_latchBoot _ _ _
  · exact .refl _ _

theorem only_endInitSafe (s : State) : onlyParts initParts s (endInitSafe s) := by
  unfold endInitSafe
  simp only []
  exact .trans (.trans (.trans (.trans (only_beginEpisode _ _).mono (only_latchProfile _).mono)
    (only_latchSelftest _).mono) (only_enterSafe _ _ _).mono) (only_setWd _ _).mono

theorem only_finishInit (s : State) : onlyParts [.clk] s (finishInit s) := only_setClk _ _

theorem only_endInit (s : State) : onlyParts initParts s (endInit s) := by
  unfold endInit
  simp only []
  refine .trans (only_finishInit s).mono (.ite _ ?_ (.ite _ ?_ ?_))
  · exact .trans (only_changeState _ _).mono (only_armHeartbeats _).mono
  · exact .trans (only_endInitSafe _) (only_armHeartbeats _).mono
  · exact .trans (.trans (only_changeState _ _).mono (only_setWd _ _).mono) (only_armHeartbeats _).mono

theorem only_afterRun (s : State) : onlyParts initParts s (afterRun s) := .ite _ (only_endInit _) (.refl _ _)

theorem only_stepSelftest (f : BitVec 8) (n : Nat) (s : State) : onlyParts initParts s (stepSelftest f n s) := by
  unfold stepSelftest
  split
  · refine .ite _ (.ite _ ?_ (.ite _ ?_ ?_)) (.refl _ _)
    · exact .trans (only_setSt _ _).mono (only_afterRun _)
    · exact .trans (only_setSt _ _).mono (only_afterRun _)
    · exact (only_setSt _ _).mono
  all_goals exact .refl _ _

theorem only_stepInitBegin (s : State) : onlyParts initParts s (stepInitBegin s) :=
  .ite _ (.trans (only_setClk _ _).mono (only_nvRequest _ _).mono) (.refl _ _)

theorem only_completeLoad (s : State) : onlyParts initParts s (completeLoad s) := by
  unfold completeLoad
  simp only []
  exact .trans (.trans (only_setProf _ _).mono (only_nvFinish _).mono)
    (.ite _ (.trans (only_setClk _ _).mono (only_nvRequest _ _).mono) (.refl _ _))

theorem only_afterArchive (s : State) : onlyParts initParts s (afterArchive s) :=
  .ite _ (.trans (only_setClk _ _).mono (only_setSt _ _).mono) (only_endInit _)

theorem only_completeArchWrite (e : ArchEntry) (s : State) : onlyParts initParts s (completeArchWrite e s) := by
  unfold completeArchWrite
  simp only []
  exact .trans (.trans (only_setArch _ _).mono (only_nvFinish _).mono)
    (.ite _ (.trans (only_setArch _ _).mono (only_afterArchive _)) (.refl _ _))

theorem only_completeErase (s : State) : onlyParts [.arch, .nv, .prof] s (completeErase s) :=
  .trans (only_setArch _ _).mono (only_nvFinish _).mono

theorem only_completeCommit (b : BankId) (g : Word) (p : Profile) (s : State) :
    onlyParts [.prof, .jrn, .nv] s (completeCommit b g p s) :=
  .trans (.trans (only_setProf _ _).mono (only_writeRec _ _).mono) (only_nvFinish _).mono

theorem only_completeNv (s : State) : onlyParts initParts s (completeNv s) := by
  unfold completeNv
  split
  · exact .refl _ _
  · exact only_completeLoad _
  · exact only_completeArchWrite _ _
  · exact (only_completeErase _).mono
  · exact (only_completeCommit _ _ _ _).mono

theorem only_stepNv (d : Bool) (s : State) : onlyParts initParts s (stepNv d s) := by
  unfold stepNv
  split
  · exact .refl _ _
  · exact .ite _ (only_completeNv _) (.refl _ _)

theorem only_stepUnlock (s : State) : onlyParts [.prof] s (stepUnlock s) := by
  unfold stepUnlock
  split
  · exact .ite _ (only_closeSession _) (.refl _ _)
  all_goals exact .refl _ _

theorem only_stepSessionLimit (s : State) : onlyParts [.jrn, .nv, .prof, .free] s (stepSessionLimit s) := by
  unfold stepSessionLimit
  split
  · exact .ite _ (only_timeoutSession _) (.refl _ _)
  all_goals exact .refl _ _

theorem only_enterStandby (s : State) :
    onlyParts [.sup, .jrn, .prof, .fl, .hb, .wd, .link, .clk] s (enterStandby s) := by
  unfold enterStandby
  simp only []
  exact .trans (.trans (.trans (.trans (.trans (only_changeState _ _).mono (only_setFl _ _).mono)
    (only_setHb _ _).mono) (only_setWd _ _).mono) (only_setLink _ _).mono) (only_setClk _ _).mono

theorem only_beginWaking (s : State) : onlyParts [.sup, .jrn, .prof, .clk, .link] s (beginWaking s) :=
  .trans (.trans (only_changeState _ _).mono (only_setClk _ _).mono) (only_setLink _ _).mono

theorem only_stepWake (s : State) : onlyParts [.sup, .jrn, .prof, .clk, .link] s (stepWake s) :=
  .ite _ (only_beginWaking _) (.refl _ _)

theorem only_stepWakingEnd (s : State) : onlyParts [.clk, .sup, .jrn, .prof, .wd, .hb] s (stepWakingEnd s) := by
  unfold stepWakingEnd
  split
  · exact .refl _ _
  · refine .ite _ ?_ (.refl _ _)
    unfold endWaking
    simp only []
    exact .trans (.trans (.trans (only_setClk _ _).mono (only_changeState _ _).mono) (only_setWd _ _).mono)
      (only_armHeartbeats _).mono

/-! ### The stages -/

theorem only_copyAll (s : State) : onlyParts [.src] s (copyAll s) := only_setSrc _ _

theorem only_copyChanged (b s : State) : onlyParts [.src] s (copyChanged b s) := only_setSrc _ _

theorem only_refreshAttn (s : State) : onlyParts [.attn] s (refreshAttn s) := only_setAttn _ _

theorem only_refreshCrit (s : State) : onlyParts [.crit] s (refreshCrit s) := only_setCrit _ _

theorem only_clearEffects (i : SrcId) (s : State) : onlyParts [.sup, .jrn, .prof, .ack] s (clearEffects i s) :=
  .trans (only_writeRec _ _).mono (only_dropAlarms _ _)

theorem only_sourceStep (acc : State × List Occ) (i : SrcId) :
    onlyParts [.src, .sup, .jrn, .prof, .ack] acc.1 (sourceStep acc i).1 := by
  unfold sourceStep
  simp only []
  split
  · exact (only_setSrc _ _).mono
  · exact (only_setSrc _ _).mono
  · exact .trans (only_setSrc _ _).mono (only_clearEffects _ _).mono

theorem only_sourceFold (xs : List SrcId) (acc : State × List Occ) :
    onlyParts [.src, .sup, .jrn, .prof, .ack] acc.1 (xs.foldl sourceStep acc).1 := by
  induction xs generalizing acc with
  | nil => exact .refl _ _
  | cons a xs ih => exact (only_sourceStep acc a).trans (ih _)

theorem only_stageB (s : State) : onlyParts [.src, .sup, .jrn, .prof, .ack, .fl] s (stageB s).1 :=
  .trans (only_sourceFold _ (s, [])).mono (only_setFl _ _).mono

theorem only_stageC (os : List Occ) (s : State) : onlyParts supParts s (stageC os s) :=
  .foldl (fun s o => only_dispatch o s) _ _

theorem only_signalWake (x : SupState) (w : Bool) (s : State) : onlyParts [.clk] s (signalWake x w s) :=
  .ite _ (only_setClk _ _) (.refl _ _)

theorem only_stageLines (x : SupState) (p : BitVec 16) (s : State) : onlyParts [.fl, .clk] s (stageLines x p s) :=
  .trans (only_setFl _ _).mono (only_signalWake _ _ _).mono

theorem only_stageLink (x : SupState) (s : State) : onlyParts [.link] s (stageLink x s) :=
  .ite _ (only_setLink _ _) (.refl _ _)

theorem only_stageComps (x : SupState) (p : BitVec 8) (s : State) : onlyParts [.out] s (stageComps x p s) :=
  .ite _ (.refl _ _) (only_setOut _ _)

/-- Steps that each change listed parts only change, taken one after the other, listed parts only. -/
theorem only_runSteps {l : List Part} {fs : List (State → State)} (h : ∀ f ∈ fs, ∀ s, onlyParts l s (f s)) (s : State) :
    onlyParts l s (runSteps fs s) := by
  induction fs generalizing s with
  | nil => exact .refl _ _
  | cons f fs ih => exact (h f (by simp) s).trans (ih (fun g hg => h g (by simp [hg])) (f s))

/-- What a unit of Stage A can change. -/
theorem only_unitSteps (x : SupState) (inp : TickInputs) :
    ∀ f ∈ unitSteps x inp, ∀ s, onlyParts [.fl, .hb, .link, .wd, .out, .clk, .port, .src, .crit] s (f s) := by
  simp only [unitSteps, List.forall_mem_cons]
  exact ⟨fun _ => (only_stageLines _ _ _).mono, fun _ => (only_setHb _ _).mono, fun _ => (only_stageLink _ _).mono,
    fun _ => (only_setWd _ _).mono, fun _ => (only_stageComps _ _ _).mono, fun _ => (only_setClk _ _).mono,
    fun _ => (only_setPort _ _).mono, fun _ h => nomatch h⟩

theorem only_stageA (x : SupState) (inp : TickInputs) (s : State) :
    onlyParts [.fl, .hb, .link, .wd, .out, .clk, .port, .src, .crit] s (stageA x inp s) :=
  .trans (.trans (only_runSteps (only_unitSteps x inp) s) (only_copyAll _).mono) (only_refreshCrit _).mono

/-- What Stages B to E can change. -/
def midParts : List Part :=
  [.clk, .hb, .src, .sup, .jrn, .prof, .ack, .out, .nv, .free, .ret, .wd, .st, .arch, .fl, .link, .crit]

theorem only_stageBC (x : SupState) (s : State) : onlyParts midParts s (stageBC x s) :=
  .ite _ (.trans (.trans (only_stageB _).mono (only_stageC _ _).mono) (only_refreshCrit _).mono) (.refl _ _)

/-- What categories 1 to 7 of Stage D can change. -/
theorem only_safetySteps (x : SupState) : ∀ f ∈ safetySteps x, ∀ s, onlyParts supParts s (f s) := by
  unfold safetySteps
  split
  · simp only [List.forall_mem_cons]
    exact ⟨fun _ => only_stepExpiry _, fun _ => only_stepDeadline _, fun _ => (only_stepActions _).mono,
      fun _ => (only_stepDwell _).mono, fun _ => (only_stepEpMin _).mono,
      fun _ => .ite _ (only_stepAutoRelease _).mono (.refl _ _), fun _ h => nomatch h⟩
  · exact fun _ h => nomatch h

/-- What categories 8 and 9 of Stage D can change. -/
theorem only_deviceSteps (inp : TickInputs) : ∀ f ∈ deviceSteps inp, ∀ s, onlyParts midParts s (f s) := by
  simp only [deviceSteps, List.forall_mem_cons]
  exact ⟨fun _ => (only_stepSelftest _ _ _).mono, fun _ => (only_stepInitBegin _).mono, fun _ => (only_stepWake _).mono,
    fun _ => (only_stepWakingEnd _).mono, fun _ => (only_stepUnlock _).mono, fun _ => (only_stepSessionLimit _).mono,
    fun _ => (only_stepNv _ _).mono, fun _ h => nomatch h⟩

/-- What a step of Stage D can change. -/
theorem only_timerSteps (x : SupState) (inp : TickInputs) : ∀ f ∈ timerSteps x inp, ∀ s, onlyParts midParts s (f s) := by
  intro f hf s
  rcases List.mem_append.mp hf with h | h
  · exact (only_safetySteps x f h s).mono
  · exact only_deviceSteps inp f h s

theorem only_stageD (x : SupState) (inp : TickInputs) (s : State) : onlyParts midParts s (stageD x inp s) :=
  .trans (only_runSteps (only_timerSteps x inp) s) (only_refreshCrit _).mono

theorem only_stageE (s : State) : onlyParts [.out] s (stageE s) := only_setOut _ _

theorem only_stageF (x : SupState) (s : State) : onlyParts [.attn, .link] s (stageF x s) :=
  .trans (only_refreshAttn _).mono (only_setLink _ _).mono

/-- What a batch can change. -/
def batchParts : List Part :=
  [.clk, .port, .hb, .src, .sup, .jrn, .prof, .ack, .out, .nv, .free, .ret, .wd, .st, .arch, .fl, .link, .crit, .attn]

theorem only_runStages (x : SupState) (inp : TickInputs) (s : State) :
    onlyParts batchParts s (runStages x inp s) :=
  .trans (.trans (.trans (.trans (only_stageA _ _ _).mono (only_stageBC _ _).mono) (only_stageD _ _ _).mono)
    (only_stageE _).mono) (only_stageF _ _).mono

/-- Damage changes nonvolatile memory alone (R135, R162). -/
theorem only_sufferDamage (d : NvDamage) (s : State) : onlyParts [.arch, .prof] s (sufferDamage d s) := by
  cases d with
  | claim i flips => exact (only_setArch _ _).mono
  | body i flips => exact (only_setArch _ _).mono
  | code b flips => exact (only_setProf _ _).mono

/-- What stands when the stages of a batch begin: the tick counter has advanced, and nonvolatile memory is as damage left it. -/
theorem only_batchStart (inp : TickInputs) (s : State) : onlyParts [.clk, .arch, .prof] s (batchStart inp s) :=
  .trans (onlyParts.foldl (fun s d => only_sufferDamage d s) inp.damage s).mono (only_setClk _ _).mono

/-- A batch in which no reset begins leaves the selectors, the software sources and the queue alone. -/
theorem only_tickBatch {inp : TickInputs} (h : inp.cut = none) (s : State) : onlyParts batchParts s (tickBatch inp s) := by
  unfold tickBatch
  rw [h]
  exact .ite _ (.trans (only_batchStart inp s).mono (only_runStages _ _ _)) (.refl _ _)

/-! ### A batch that does not complete -/

/-- A batch changes up to any point in it only what a whole batch can change. -/
theorem only_runUntil (x : SupState) (inp : TickInputs) (p : BatchPoint) (s : State) :
    onlyParts batchParts s (runUntil x inp p s) := by
  cases p with
  | units n => exact (only_runSteps (fun f hf => only_unitSteps x inp f (List.mem_of_mem_take hf)) s).mono
  | records n =>
    exact (only_stageA x inp s).mono.trans (.ite _ (only_sourceFold _ (_, [])).mono (.refl _ _))
  | dispatches n =>
    exact (only_stageA x inp s).mono.trans
      (.ite _ (.trans (only_stageB _).mono (onlyParts.foldl (fun s o => only_dispatch o s) _ _).mono) (.refl _ _))
  | timers n =>
    exact ((only_stageA x inp s).mono.trans (only_stageBC x _).mono).trans
      (only_runSteps (fun f hf => only_timerSteps x inp f (List.mem_of_mem_take hf)) _).mono
  | outputs =>
    exact (((only_stageA x inp s).mono.trans (only_stageBC x _).mono).trans (only_stageD x inp _).mono).trans
      (only_stageE _).mono

theorem only_abandonBatch (inp : TickInputs) (p : BatchPoint) (s : State) :
    onlyParts batchParts s (abandonBatch inp p s) := .trans (only_batchStart inp s).mono (only_runUntil _ _ _ _)

/-- A reset keeps the queue. -/
theorem beginReset_pending (k : ResetKind) (s : State) : (beginReset k s).pending = s.pending :=
  (only_nvInterrupt s).same .pending

end Sys2Proof.Machine
end

