-- ==== Sys2Proof/Laws/Ops.lean ====
section
/-!
SUPPORT. What the operations that write a record, cancel an unlock step or change the supervisor state leave of each field, as
simp lemmas, and when two states give the same journal or the same store.
-/

namespace Sys2Proof.Machine

set_option Elab.async false

/-! ### A record is written -/

@[simp] theorem writeRec_clk (b : RecBody) (s : State) : (writeRec b s).clk = s.clk := rfl
@[simp] theorem writeRec_ret (b : RecBody) (s : State) : (writeRec b s).ret = s.ret := rfl
@[simp] theorem writeRec_port (b : RecBody) (s : State) : (writeRec b s).port = s.port := rfl
@[simp] theorem writeRec_fl (b : RecBody) (s : State) : (writeRec b s).fl = s.fl := rfl
@[simp] theorem writeRec_hb (b : RecBody) (s : State) : (writeRec b s).hb = s.hb := rfl
@[simp] theorem writeRec_link (b : RecBody) (s : State) : (writeRec b s).link = s.link := rfl
@[simp] theorem writeRec_src (b : RecBody) (s : State) : (writeRec b s).src = s.src := rfl
@[simp] theorem writeRec_sw (b : RecBody) (s : State) : (writeRec b s).sw = s.sw := rfl
@[simp] theorem writeRec_sup (b : RecBody) (s : State) : (writeRec b s).sup = s.sup := rfl
@[simp] theorem writeRec_ack (b : RecBody) (s : State) : (writeRec b s).ack = s.ack := rfl
@[simp] theorem writeRec_wd (b : RecBody) (s : State) : (writeRec b s).wd = s.wd := rfl
@[simp] theorem writeRec_arch (b : RecBody) (s : State) : (writeRec b s).arch = s.arch := rfl
@[simp] theorem writeRec_out (b : RecBody) (s : State) : (writeRec b s).out = s.out := rfl
@[simp] theorem writeRec_prof (b : RecBody) (s : State) : (writeRec b s).prof = s.prof := rfl
@[simp] theorem writeRec_nv (b : RecBody) (s : State) : (writeRec b s).nv = s.nv := rfl
@[simp] theorem writeRec_st (b : RecBody) (s : State) : (writeRec b s).st = s.st := rfl
@[simp] theorem writeRec_sel (b : RecBody) (s : State) : (writeRec b s).sel = s.sel := rfl
@[simp] theorem writeRec_attn (b : RecBody) (s : State) : (writeRec b s).attn = s.attn := rfl
@[simp] theorem writeRec_crit (b : RecBody) (s : State) : (writeRec b s).crit = s.crit := rfl
@[simp] theorem writeRec_free (b : RecBody) (s : State) : (writeRec b s).free = s.free := rfl
@[simp] theorem writeRec_pending (b : RecBody) (s : State) : (writeRec b s).pending = s.pending := rfl

@[simp] theorem writeRec_now (b : RecBody) (s : State) : (writeRec b s).now = s.now := rfl

theorem appendRec_seq (p : JrnPolicy) (r : Rec) (j : Journal) : (appendRec p r j).seq = j.seq := by
  unfold appendRec
  split
  · rfl
  · split
    · rfl
    · split <;> rfl

theorem appendRec_buf (p : JrnPolicy) (r : Rec) (j : Journal) : (appendRec p r j).buf = j.buf := by
  unfold appendRec
  split
  · rfl
  · split
    · rfl
    · split <;> rfl

/-- A record takes one SEQ value whatever becomes of it (R127). -/
@[simp] theorem writeRec_jrn_seq (b : RecBody) (s : State) : (writeRec b s).jrn.seq = s.jrn.seq + 1 := rfl

/-- The read buffer is not touched by a record (R133). -/
@[simp] theorem writeRec_jrn_buf (b : RecBody) (s : State) : (writeRec b s).jrn.buf = s.jrn.buf := appendRec_buf _ _ _

/-- The journal after a record depends on the journal, the tick, the episode and the policy alone (R127, R130). -/
theorem writeRec_jrn_congr {s t : State} (b : RecBody) (hj : t.jrn = s.jrn) (hc : t.clk.tick = s.clk.tick)
    (he : t.sup.episode = s.sup.episode) (hp : t.prof.running.jrn.policy = s.prof.running.jrn.policy) :
    (writeRec b t).jrn = (writeRec b s).jrn := by
  simp only [writeRec, newRec, State.now, hj, hc, he, hp, setJrn_jrn]

/-! ### An unlock step is cancelled -/

@[simp] theorem cancelUnlock_clk (s : State) : (cancelUnlock s).clk = s.clk := (only_cancelUnlock s).same .clk
@[simp] theorem cancelUnlock_ret (s : State) : (cancelUnlock s).ret = s.ret := (only_cancelUnlock s).same .ret
@[simp] theorem cancelUnlock_port (s : State) : (cancelUnlock s).port = s.port := (only_cancelUnlock s).same .port
@[simp] theorem cancelUnlock_fl (s : State) : (cancelUnlock s).fl = s.fl := (only_cancelUnlock s).same .fl
@[simp] theorem cancelUnlock_hb (s : State) : (cancelUnlock s).hb = s.hb := (only_cancelUnlock s).same .hb
@[simp] theorem cancelUnlock_link (s : State) : (cancelUnlock s).link = s.link := (only_cancelUnlock s).same .link
@[simp] theorem cancelUnlock_src (s : State) : (cancelUnlock s).src = s.src := (only_cancelUnlock s).same .src
@[simp] theorem cancelUnlock_sw (s : State) : (cancelUnlock s).sw = s.sw := (only_cancelUnlock s).same .sw
@[simp] theorem cancelUnlock_sup (s : State) : (cancelUnlock s).sup = s.sup := (only_cancelUnlock s).same .sup
@[simp] theorem cancelUnlock_ack (s : State) : (cancelUnlock s).ack = s.ack := (only_cancelUnlock s).same .ack
@[simp] theorem cancelUnlock_wd (s : State) : (cancelUnlock s).wd = s.wd := (only_cancelUnlock s).same .wd
@[simp] theorem cancelUnlock_jrn (s : State) : (cancelUnlock s).jrn = s.jrn := (only_cancelUnlock s).same .jrn
@[simp] theorem cancelUnlock_arch (s : State) : (cancelUnlock s).arch = s.arch := (only_cancelUnlock s).same .arch
@[simp] theorem cancelUnlock_out (s : State) : (cancelUnlock s).out = s.out := (only_cancelUnlock s).same .out
@[simp] theorem cancelUnlock_nv (s : State) : (cancelUnlock s).nv = s.nv := (only_cancelUnlock s).same .nv
@[simp] theorem cancelUnlock_st (s : State) : (cancelUnlock s).st = s.st := (only_cancelUnlock s).same .st
@[simp] theorem cancelUnlock_sel (s : State) : (cancelUnlock s).sel = s.sel := (only_cancelUnlock s).same .sel
@[simp] theorem cancelUnlock_attn (s : State) : (cancelUnlock s).attn = s.attn := (only_cancelUnlock s).same .attn
@[simp] theorem cancelUnlock_crit (s : State) : (cancelUnlock s).crit = s.crit := (only_cancelUnlock s).same .crit
@[simp] theorem cancelUnlock_free (s : State) : (cancelUnlock s).free = s.free := (only_cancelUnlock s).same .free
@[simp] theorem cancelUnlock_pending (s : State) : (cancelUnlock s).pending = s.pending := (only_cancelUnlock s).same .pending

@[simp] theorem cancelUnlock_now (s : State) : (cancelUnlock s).now = s.now := by simp [State.now]

theorem cancelUnlock_prof_congr {s t : State} (h : t.prof = s.prof) : (cancelUnlock t).prof = (cancelUnlock s).prof := by
  unfold cancelUnlock
  rw [h]
  cases s.prof.session <;> simp [h]

/-- Cancelling changes nothing of the store but its session (R156). -/
theorem cancelUnlock_prof_eq (s : State) :
    (cancelUnlock s).prof = { s.prof with session := (cancelUnlock s).prof.session } := by
  unfold cancelUnlock
  cases h : s.prof.session <;> simp

@[simp] theorem cancelUnlock_prof_running (s : State) : (cancelUnlock s).prof.running = s.prof.running := by
  rw [cancelUnlock_prof_eq]

@[simp] theorem cancelUnlock_idem (s : State) : (cancelUnlock (cancelUnlock s)).prof = (cancelUnlock s).prof := by
  unfold cancelUnlock
  cases h : s.prof.session <;> simp [h]

@[simp] theorem sessionOpen_cancelUnlock (s : State) : sessionOpen (cancelUnlock s) = sessionOpen s := by
  unfold cancelUnlock sessionOpen
  cases h : s.prof.session <;> simp [h]

/-! ### The supervisor changes state -/

@[simp] theorem changeState_clk (x : SupState) (s : State) : (changeState x s).clk = s.clk := by simp [changeState]
@[simp] theorem changeState_ret (x : SupState) (s : State) : (changeState x s).ret = s.ret := by simp [changeState]
@[simp] theorem changeState_port (x : SupState) (s : State) : (changeState x s).port = s.port := by simp [changeState]
@[simp] theorem changeState_fl (x : SupState) (s : State) : (changeState x s).fl = s.fl := by simp [changeState]
@[simp] theorem changeState_hb (x : SupState) (s : State) : (changeState x s).hb = s.hb := by simp [changeState]
@[simp] theorem changeState_link (x : SupState) (s : State) : (changeState x s).link = s.link := by simp [changeState]
@[simp] theorem changeState_src (x : SupState) (s : State) : (changeState x s).src = s.src := by simp [changeState]
@[simp] theorem changeState_sw (x : SupState) (s : State) : (changeState x s).sw = s.sw := by simp [changeState]
@[simp] theorem changeState_ack (x : SupState) (s : State) : (changeState x s).ack = s.ack := by simp [changeState]
@[simp] theorem changeState_wd (x : SupState) (s : State) : (changeState x s).wd = s.wd := by simp [changeState]
@[simp] theorem changeState_arch (x : SupState) (s : State) : (changeState x s).arch = s.arch := by simp [changeState]
@[simp] theorem changeState_out (x : SupState) (s : State) : (changeState x s).out = s.out := by simp [changeState]
@[simp] theorem changeState_nv (x : SupState) (s : State) : (changeState x s).nv = s.nv := by simp [changeState]
@[simp] theorem changeState_st (x : SupState) (s : State) : (changeState x s).st = s.st := by simp [changeState]
@[simp] theorem changeState_sel (x : SupState) (s : State) : (changeState x s).sel = s.sel := by simp [changeState]
@[simp] theorem changeState_attn (x : SupState) (s : State) : (changeState x s).attn = s.attn := by simp [changeState]
@[simp] theorem changeState_crit (x : SupState) (s : State) : (changeState x s).crit = s.crit := by simp [changeState]
@[simp] theorem changeState_free (x : SupState) (s : State) : (changeState x s).free = s.free := by simp [changeState]
@[simp] theorem changeState_pending (x : SupState) (s : State) : (changeState x s).pending = s.pending := by simp [changeState]

@[simp] theorem changeState_now (x : SupState) (s : State) : (changeState x s).now = s.now := by simp [State.now]

/-- A state change changes the state and nothing else of the Supervisor (R79). -/
@[simp] theorem changeState_sup (x : SupState) (s : State) : (changeState x s).sup = { s.sup with state := x } := by
  simp [changeState]

/-- A state change writes its STATE record (R81). -/
@[simp] theorem changeState_jrn (x : SupState) (s : State) :
    (changeState x s).jrn = (writeRec (.state s.sup.state x) s).jrn := by
  simp only [changeState, cancelUnlock_jrn]
  exact writeRec_jrn_congr _ rfl rfl rfl rfl

/-- A state change cancels a pending unlock step (R156). -/
@[simp] theorem changeState_prof (x : SupState) (s : State) : (changeState x s).prof = (cancelUnlock s).prof :=
  cancelUnlock_prof_congr rfl

end Sys2Proof.Machine
end

