-- ==== Sys2Proof/Laws/Tables.lean ====
section
/-!
SUPPORT. Tables: an entry after an entry is replaced or every entry is recomputed, and words built bit by bit.
-/

namespace Sys2Proof.Machine

set_option Elab.async false

variable {α β : Type} {n : Nat}

theorem vget_ext {v w : Vector α n} (h : ∀ i, vget v i = vget w i) : v = w := by
  ext i hi
  exact h ⟨i, hi⟩

@[simp] theorem vget_vset_same (v : Vector α n) (i : Fin n) (x : α) : vget (vset v i x) i = x := by
  simp [vget, vset, Vector.get_eq_getElem]

theorem vget_vset_ne (v : Vector α n) (i j : Fin n) (x : α) (h : j ≠ i) : vget (vset v i x) j = vget v j := by
  have hn : i.val ≠ j.val := fun e => h (Fin.ext e.symm)
  simp [vget, vset, Vector.get_eq_getElem, hn]

theorem vget_vset (v : Vector α n) (i j : Fin n) (x : α) :
    vget (vset v i x) j = if j = i then x else vget v j := by
  by_cases h : j = i
  · simp [h]
  · simp [h, vget_vset_ne]

@[simp] theorem vset_vget (v : Vector α n) (i : Fin n) : vset v i (vget v i) = v := by
  apply vget_ext
  intro j
  by_cases h : j = i
  · simp [h]
  · simp [vget_vset_ne, h]

@[simp] theorem vget_vmap (f : Fin n → α → β) (v : Vector α n) (i : Fin n) : vget (vmap f v) i = f i (vget v i) := by
  simp [vget, vmap, Vector.get_eq_getElem]

@[simp] theorem vget_replicate (x : α) (i : Fin n) : vget (Vector.replicate n x) i = x := by
  simp [vget, Vector.get_eq_getElem]

/-- A table recomputed entry by entry without change is the table. -/
theorem vmap_id (f : Fin n → α → α) (v : Vector α n) (h : ∀ i, f i (vget v i) = vget v i) : vmap f v = v :=
  vget_ext (fun i => by rw [vget_vmap, h i])

theorem mem_toList_iff_vget (v : Vector α n) (x : α) : x ∈ v.toList ↔ ∃ i, vget v i = x := by
  simp only [Vector.mem_toList_iff, Vector.mem_iff_getElem, vget, Vector.get_eq_getElem]
  constructor
  · rintro ⟨i, hi, h⟩
    exact ⟨⟨i, hi⟩, h⟩
  · rintro ⟨i, h⟩
    exact ⟨i.val, i.isLt, h⟩

/-- Bit `j` of a word folded together bit by bit. -/
theorem getLsbD_bitsFold (f : Fin n → Bool) (l : List (Fin n)) (acc : BitVec n) (j : Fin n) :
    (l.foldl (fun acc i => if f i then acc ||| BitVec.twoPow n i.val else acc) acc).getLsbD j.val =
      (acc.getLsbD j.val || (decide (j ∈ l) && f j)) := by
  induction l generalizing acc with
  | nil => simp
  | cons x xs ih =>
    rw [List.foldl_cons, ih]
    by_cases hx : j = x
    · subst hx
      cases hf : f j <;> simp
    · have hne : j.val ≠ x.val := fun e => hx (Fin.ext e)
      cases f x <;> simp [hx, hne]

/-- Bit `j` of `bitsOf f` is `f j`. -/
@[simp] theorem getLsbD_bitsOf (f : Fin n → Bool) (j : Fin n) : (bitsOf f).getLsbD j.val = f j := by
  unfold bitsOf
  rw [getLsbD_bitsFold f (List.finRange n) 0 j]
  simp

end Sys2Proof.Machine
end

