-- ==== Sys2Proof/Laws/Commands.lean ====
section
/-!
SUPPORT. Frames on the host port: a frame of a command that passes the checks of R6 executes the command, and what the executed
command leaves, in terms of the state its own rule leaves (`CommandOutcome`).
-/

namespace Sys2Proof.Machine

set_option Elab.async false

/-! ### Fields side by side -/

theorem toNat_append_mul {n m : Nat} (x : BitVec n) (y : BitVec m) :
    (x ++ y).toNat = x.toNat * 2 ^ m + y.toNat := by
  rw [BitVec.toNat_append, Nat.shiftLeft_eq, Nat.mul_comm, ← Nat.two_pow_add_eq_or_of_lt y.isLt]

/-- The high field of a word. -/
theorem extract_high {n m k : Nat} (x : BitVec n) (y : BitVec m) (z : BitVec k)
    (hz : z.toNat = x.toNat * 2 ^ m + y.toNat) : z.extractLsb' m n = x := by
  apply BitVec.eq_of_toNat_eq
  rw [BitVec.extractLsb'_toNat, hz, Nat.shiftRight_eq_div_pow, Nat.mul_comm,
    Nat.mul_add_div (Nat.two_pow_pos m), Nat.div_eq_of_lt y.isLt, Nat.add_zero, Nat.mod_eq_of_lt x.isLt]

/-- The low field of a word. -/
theorem extract_low {n m k : Nat} (x : BitVec n) (y : BitVec m) (z : BitVec k)
    (hz : z.toNat = x.toNat * 2 ^ m + y.toNat) : z.extractLsb' 0 m = y := by
  apply BitVec.eq_of_toNat_eq
  rw [BitVec.extractLsb'_toNat, hz, Nat.shiftRight_zero, Nat.mul_comm, Nat.mul_add_mod, Nat.mod_eq_of_lt y.isLt]

@[simp] theorem argAddr_append (a : Byte) (x : Word) : argAddr (a ++ x) = a :=
  extract_high a x _ (toNat_append_mul _ _)

@[simp] theorem argData_append (a : Byte) (x : Word) : argData (a ++ x) = x :=
  extract_low a x _ (toNat_append_mul _ _)

theorem argOf_eq (a b c : Byte) : argOf a b c = a ++ (b ++ c : Word) := by
  apply BitVec.eq_of_toNat_eq
  refine (toNat_append_mul (a ++ b) c).trans (Eq.trans ?_ (toNat_append_mul a (b ++ c : Word)).symm)
  rw [toNat_append_mul, toNat_append_mul]
  omega

@[simp] theorem argAddr_argOf (a b c : Byte) : argAddr (argOf a b c) = a := by rw [argOf_eq, argAddr_append]

@[simp] theorem argData_argOf (a b c : Byte) : argData (argOf a b c) = b ++ c := by rw [argOf_eq, argData_append]

@[simp] theorem argLow_setWidth (b : Byte) : argLow (b.setWidth 24) = b := by
  apply BitVec.eq_of_toNat_eq
  have : b.toNat < 256 := b.isLt
  simp [argLow, this]

theorem extract_argOf (a b c : Byte) : (argOf a b c).extractLsb' 0 8 = c := extract_low (a ++ b) c _ (toNat_append_mul _ _)

theorem argSource_ofNat (n : SrcId) : argSource (BitVec.ofNat 24 n.val) = n := by
  revert n
  decide

theorem argNode_ofNat (n : Fin 8) : argNode (BitVec.ofNat 24 n.val) = n := by
  revert n
  decide

theorem swBit_ofNat (n : Fin 4) : swBit (BitVec.ofNat 24 n.val) = BitVec.twoPow 4 n.val := by
  revert n
  decide

/-! ### A frame that carries a command -/

theorem cmdOf_cmdCode (c : Cmd) : cmdOf (cmdCode c) = some c := by cases c <;> decide

/-- The state in which an accepted command begins to execute: only the port has changed (R9, R12, R18). -/
def accepted (h : FrameHead) (s : State) : State := acceptTag h.tag (showSdo (sdoBits h.start 48 s.port.slot) s)

@[simp] theorem accepted_clk (h : FrameHead) (s : State) : (accepted h s).clk = s.clk := rfl
@[simp] theorem accepted_ret (h : FrameHead) (s : State) : (accepted h s).ret = s.ret := rfl
@[simp] theorem accepted_fl (h : FrameHead) (s : State) : (accepted h s).fl = s.fl := rfl
@[simp] theorem accepted_hb (h : FrameHead) (s : State) : (accepted h s).hb = s.hb := rfl
@[simp] theorem accepted_link (h : FrameHead) (s : State) : (accepted h s).link = s.link := rfl
@[simp] theorem accepted_src (h : FrameHead) (s : State) : (accepted h s).src = s.src := rfl
@[simp] theorem accepted_sw (h : FrameHead) (s : State) : (accepted h s).sw = s.sw := rfl
@[simp] theorem accepted_sup (h : FrameHead) (s : State) : (accepted h s).sup = s.sup := rfl
@[simp] theorem accepted_ack (h : FrameHead) (s : State) : (accepted h s).ack = s.ack := rfl
@[simp] theorem accepted_wd (h : FrameHead) (s : State) : (accepted h s).wd = s.wd := rfl
@[simp] theorem accepted_jrn (h : FrameHead) (s : State) : (accepted h s).jrn = s.jrn := rfl
@[simp] theorem accepted_arch (h : FrameHead) (s : State) : (accepted h s).arch = s.arch := rfl
@[simp] theorem accepted_out (h : FrameHead) (s : State) : (accepted h s).out = s.out := rfl
@[simp] theorem accepted_prof (h : FrameHead) (s : State) : (accepted h s).prof = s.prof := rfl
@[simp] theorem accepted_nv (h : FrameHead) (s : State) : (accepted h s).nv = s.nv := rfl
@[simp] theorem accepted_st (h : FrameHead) (s : State) : (accepted h s).st = s.st := rfl
@[simp] theorem accepted_sel (h : FrameHead) (s : State) : (accepted h s).sel = s.sel := rfl
@[simp] theorem accepted_attn (h : FrameHead) (s : State) : (accepted h s).attn = s.attn := rfl
@[simp] theorem accepted_crit (h : FrameHead) (s : State) : (accepted h s).crit = s.crit := rfl
@[simp] theorem accepted_free (h : FrameHead) (s : State) : (accepted h s).free = s.free := rfl
@[simp] theorem accepted_pending (h : FrameHead) (s : State) : (accepted h s).pending = s.pending := rfl

@[simp] theorem accepted_now (h : FrameHead) (s : State) : (accepted h s).now = s.now := rfl

@[simp] theorem sessionOpen_accepted (h : FrameHead) (s : State) : sessionOpen (accepted h s) = sessionOpen s := rfl

@[simp] theorem planOf_accepted (h : FrameHead) (s : State) : planOf (accepted h s) = planOf s := rfl

theorem accepted_port (h : FrameHead) (s : State) :
    (accepted h s).port =
      { s.port with synced := true, lastTag := h.tag, consec := 0, sdo := sdoBits h.start 48 s.port.slot } := rfl

theorem only_accepted (h : FrameHead) (s : State) : onlyParts [.port] s (accepted h s) :=
  .trans (only_setPort _ _) (only_setPort _ _)

/-- A frame of 48 bits with a passing check code and format, at a port that processes frames, is judged by its tag (R6, R9). -/
theorem commandFrame_open (h : FrameHead) (code : Byte) (arg : BitVec 24) (s : State) (ho : portOpen h.start s = true) :
    commandFrame h code arg s =
      match judgeTag s.port h.tag with
      | .new => processNew (requestFrame code h.tag arg) (showSdo (sdoBits h.start 48 s.port.slot) s)
      | .again => retransmit (showSdo (sdoBits h.start 48 s.port.slot) s)
      | .wrong => rejectTag (requestFrame code h.tag arg) (showSdo (sdoBits h.start 48 s.port.slot) s) := by
  have h1 : frameCrcOk (requestFrame code h.tag arg) = true := by simp [frameCrcOk, frameCrc, requestFrame]
  have h2 : frameTag (requestFrame code h.tag arg) = h.tag :=
    extract_high h.tag (0 : BitVec 5) _ (toNat_append_mul _ _)
  have h3 : frameLow5 (requestFrame code h.tag arg) = 0 := extract_low h.tag (0 : BitVec 5) _ (toNat_append_mul _ _)
  have hf : ∀ u, processFrame (requestFrame code h.tag arg) u = match judgeTag u.port h.tag with
      | .new => processNew (requestFrame code h.tag arg) u
      | .again => retransmit u
      | .wrong => rejectTag (requestFrame code h.tag arg) u := by
    intro u
    cases hjt : judgeTag u.port h.tag <;> simp [processFrame, h1, h2, h3, hjt]
  have hj : judgeTag (showSdo (sdoBits h.start 48 s.port.slot) s).port h.tag = judgeTag s.port h.tag := rfl
  unfold commandFrame hostFrame onPort
  obtain ⟨hs, ho⟩ := Bool.and_eq_true_iff.mp ho
  rw [← hj, if_neg (by simpa using hs)]
  cases hp : s.clk.phase <;> simp only [hp] at ho ⊢
  case starting => exact hf _
  case running => exact hf _
  case inReset k => cases k <;> exact absurd ho (by decide)
  case stopped => exact absurd ho (by decide)

theorem judgeTag_new {s : State} {tag : BitVec 3} (h : tagIsNew s tag = true) : judgeTag s.port tag = .new := by
  unfold tagIsNew at h
  unfold judgeTag
  cases hs : s.port.synced <;> simp_all

/-- A frame accepted as new consumes its tag and goes through steps 5 to 8 (R6, R9). -/
theorem commandFrame_new (h : FrameHead) (code : Byte) (arg : BitVec 24) (s : State) (ho : portOpen h.start s = true)
    (hn : tagIsNew s h.tag = true) :
    commandFrame h code arg s =
      match cmdOf code with
      | none => rejectNew h.tag .rejCommand (accepted h s)
      | some c => judgeCommand h.tag c arg (accepted h s) := by
  have h2 : frameTag (requestFrame code h.tag arg) = h.tag :=
    extract_high h.tag (0 : BitVec 5) _ (toNat_append_mul _ _)
  have h3 : frameArg (requestFrame code h.tag arg) = arg := by
    apply BitVec.eq_of_toNat_eq
    refine (toNat_append_mul (arg.extractLsb' 16 8 ++ arg.extractLsb' 8 8) (arg.extractLsb' 0 8)).trans ?_
    rw [toNat_append_mul]
    have := arg.isLt
    simp only [BitVec.extractLsb'_toNat, Nat.shiftRight_eq_div_pow]
    omega
  rw [commandFrame_open h code arg s ho, judgeTag_new hn]
  simp only [processNew, h2, h3]
  rfl

/-- A frame that passes every check executes its command (R6). -/
theorem cmdFrame_executes {c : Cmd} {h : FrameHead} {arg : BitVec 24} {s : State}
    (he : executes c h arg s = true) : cmdFrame c h arg s = execute h.tag c arg (accepted h s) := by
  simp only [executes, Bool.and_eq_true] at he
  obtain ⟨⟨⟨⟨ho, hn⟩, hp⟩, ha⟩, hx⟩ := he
  unfold cmdFrame
  rw [commandFrame_new h _ _ _ ho hn, cmdOf_cmdCode]
  simp [judgeCommand, hp, ha, hx]

/-! ### The end of an executed command -/

/-- What the port does after a command's own rule, `w` being the state that the rule left (R12, R59, R77, R114). -/
def afterRule (u w : State) (tag : BitVec 3) (res : Res) (data : BitVec 24) : State :=
  storeResult tag res data (refreshCrit (refreshAttn (copyChanged u w)))

/-- A command other than OPEN_SESSION also cancels a pending unlock step (R156). -/
theorem execute_other {tag : BitVec 3} {c : Cmd} {arg : BitVec 24} {u : State} (o : CmdOut)
    (ho : runCommand c arg u = o) (hr : o.reset = false) (hc : c ≠ .openSession) :
    execute tag c arg u = afterRule u (cancelUnlock o.st) tag o.res o.data := by
  simp [execute, ho, hr, afterCommand, hc, afterRule]

theorem execute_openSession {tag : BitVec 3} {arg : BitVec 24} {u : State} (o : CmdOut)
    (ho : runCommand .openSession arg u = o) (hr : o.reset = false) :
    execute tag .openSession arg u = afterRule u o.st tag o.res o.data := by
  simp [execute, ho, hr, afterCommand, afterRule]

theorem only_afterRule (u w : State) (tag : BitVec 3) (res : Res) (data : BitVec 24) :
    onlyParts [.port, .src, .attn, .crit] w (afterRule u w tag res data) :=
  .trans (.trans (.trans (.trans (only_setSrc _ _).mono (only_setAttn _ _).mono) (only_setCrit _ _).mono)
    (only_setPort _ _).mono) (only_setPort _ _).mono

/-- nATTN depends on the records, the descriptors and the journal (R77). -/
theorem computeAttn_congr {s t : State} (h1 : t.src = s.src) (h2 : t.prof = s.prof) (h3 : t.jrn = s.jrn) :
    computeAttn t = computeAttn s := by
  have hn : notifies t = notifies s := funext fun i => by simp only [notifies, h1, h2]
  simp only [computeAttn, journalAttn, hn, h2, h3]

theorem flagsCurrent_afterRule (u w : State) (tag : BitVec 3) (res : Res) (data : BitVec 24) :
    flagsCurrent (afterRule u w tag res data) := by
  constructor
  · refine Eq.trans ?_ (computeAttn_congr (s := copyChanged u w) ?_ ?_ ?_).symm <;>
      simp [afterRule, storeResult, answer, refreshCrit, refreshAttn]
  · simp [afterRule, storeResult, answer, refreshCrit, refreshAttn, critNow]

/-- The parts no unit's condition depends on, but for the two fields of the port. -/
def condFree : List Part := [.port, .src, .attn, .crit, .ack, .sel, .arch, .nv, .free, .pending, .ret]

/-- The condition a unit presents depends on the units and on the port's S45 (section 4.1). -/
theorem unitCond_congr {s t : State} (h : onlyParts condFree s t) (hp : t.port.s45 = s.port.s45) (i : SrcId) :
    unitCond t i = unitCond s i := by
  have h1 := h.same .fl
  have h2 := h.same .hb
  have h3 := h.same .link
  have h4 := h.same .prof
  have h5 := h.same .wd
  have h6 := h.same .out
  have h7 := h.same .st
  have h8 := h.same .jrn
  have h9 := h.same .clk
  have h0 := h.same .sw
  simp only [samePart] at *
  simp only [unitCond, h1, h2, h3, h4, h5, h6, h7, h8, h9, h0, hp]

theorem unitDetailOn_congr {s t : State} (h : onlyParts condFree s t) (hp : t.port.s45Detail = s.port.s45Detail)
    (i : SrcId) : unitDetailOn t i = unitDetailOn s i := by
  have h1 := h.same .fl
  have h2 := h.same .hb
  have h3 := h.same .link
  have h4 := h.same .prof
  have h5 := h.same .wd
  have h6 := h.same .out
  have h7 := h.same .st
  have h8 := h.same .jrn
  have h9 := h.same .clk
  simp only [samePart] at *
  simp only [unitDetailOn, h1, h2, h3, h4, h5, h6, h7, h8, h9, hp]

theorem unitNode_congr {s t : State} (h : onlyParts condFree s t) (i : SrcId) : unitNode t i = unitNode s i := by
  have h3 := h.same .link
  simp only [samePart] at h3
  simp only [unitNode, h3]

theorem unitCond_afterRule (u w : State) (tag : BitVec 3) (res : Res) (data : BitVec 24) (i : SrcId) :
    unitCond (afterRule u w tag res data) i = unitCond w i :=
  unitCond_congr (only_afterRule _ _ _ _ _).mono
    (by simp [afterRule, storeResult, answer, refreshCrit, refreshAttn, copyChanged]) i

theorem copyOne_afterRule (u w : State) (tag : BitVec 3) (res : Res) (data : BitVec 24) (i : SrcId) (r : SrcRec) :
    copyOne (afterRule u w tag res data) i r = copyOne w i r := by
  have h2 := unitDetailOn_congr (s := w) (t := afterRule u w tag res data) (only_afterRule _ _ _ _ _).mono
    (by simp [afterRule, storeResult, answer, refreshCrit, refreshAttn, copyChanged]) i
  have h3 := unitNode_congr (s := w) (t := afterRule u w tag res data) (only_afterRule _ _ _ _ _).mono i
  simp only [copyOne, unitDetail, unitCond_afterRule, h2, h3]

/-- The records follow the conditions that the command has changed (R59). -/
theorem srcFollows_afterRule (u w : State) (tag : BitVec 3) (res : Res) (data : BitVec 24) :
    srcFollows w.src u (afterRule u w tag res data) := by
  unfold srcFollows
  simp only [unitCond_afterRule, copyOne_afterRule]
  simp [afterRule, storeResult, answer, refreshCrit, refreshAttn, copyChanged]

/-- A command that changes no condition leaves the records as its rule left them. -/
theorem afterRule_src_same (u w : State) (tag : BitVec 3) (res : Res) (data : BitVec 24)
    (h : ∀ i, unitCond u i = unitCond w i) : (afterRule u w tag res data).src = w.src := by
  refine (srcFollows_afterRule u w tag res data).trans ?_
  apply vmap_id
  intro i
  simp [unitCond_afterRule, h i]

theorem afterRule_port (u w : State) (tag : BitVec 3) (res : Res) (data : BitVec 24) :
    (afterRule u w tag res data).port =
      { w.port with
        stored := some { tag := tag, res := res, data := data }
        slot := { status := globalStatus (afterRule u w tag res data), tag := tag, res := res, data := data } } := by
  simp [afterRule, storeResult, answer, refreshCrit, refreshAttn, copyChanged, globalStatus, hportFault, sessionOpen]
  rfl

theorem unitCond_accepted (h : FrameHead) (s : State) (i : SrcId) : unitCond (accepted h s) i = unitCond s i :=
  unitCond_congr (only_accepted h s).mono rfl i

theorem unitCond_cancelUnlock (s : State) (i : SrcId) : unitCond (cancelUnlock s) i = unitCond s i := by
  have h : (cancelUnlock s).prof.dflt = s.prof.dflt := by rw [cancelUnlock_prof_eq]
  simp only [unitCond, cancelUnlock_fl, cancelUnlock_hb, cancelUnlock_link, cancelUnlock_wd, cancelUnlock_out,
    cancelUnlock_st, cancelUnlock_jrn, cancelUnlock_clk, cancelUnlock_sw, cancelUnlock_port, cancelUnlock_prof_running, h]

theorem only_from_accepted {l : List Part} {h : FrameHead} {s t : State} (hl : onlyParts (.prof :: l) (accepted h s) t) :
    onlyParts (.port :: .attn :: .crit :: .prof :: l) s t := by
  intro p hp
  simp only [List.mem_cons, not_or] at hp
  exact (only_accepted h s p (by simp [hp.1])).trans (hl p (by simp [hp]))

/-! ### The outcome of an executed command -/

/-- What the frame of an executed command other than OPEN_SESSION leaves in `t`, `w` being what the command's rule left. -/
structure CommandOutcome (l : List Part) (h : FrameHead) (res : Res) (data : BitVec 24) (s w t : State) : Prop where
  done : commandDone l h res data s t
  prof : t.prof = (cancelUnlock w).prof
  srcf : srcFollows w.src s t
  same : (∀ i, unitCond s i = unitCond w i) → t.src = w.src
  rest : onlyParts [.port, .src, .attn, .crit, .prof] w t

/-- The frame of a command that passes every check and whose rule leaves `w`: one lemma for the whole of the host port around
it. `l` lists what the rule can change beside the store. -/
theorem command_outcome {c : Cmd} {h : FrameHead} {arg : BitVec 24} {s : State} (l : List Part) {res : Res}
    {data : BitVec 24} (w : State) (he : executes c h arg s = true) (hc : c ≠ .openSession)
    (ho : runCommand c arg (accepted h s) = { st := w, res := res, data := data, reset := false })
    (hl : onlyParts (.prof :: l) (accepted h s) w) (hp : decide (Part.port ∈ l) = false)
    (hs : .src ∈ l ∨ ∀ i, unitCond s i = unitCond w i) :
    ∃ t, cmdFrame c h arg s = t ∧ CommandOutcome l h res data s w t := by
  refine ⟨_, rfl, ?_⟩
  rw [cmdFrame_executes he, execute_other _ ho rfl hc]
  have hrest : onlyParts [.port, .src, .attn, .crit, .prof] w
      (afterRule (accepted h s) (cancelUnlock w) h.tag res data) :=
    .trans (only_cancelUnlock _).mono (only_afterRule _ _ _ _ _).mono
  have hall := only_from_accepted hl
  have hport : w.port = (accepted h s).port := hl .port (by simpa using hp)
  have hsame : (∀ i, unitCond s i = unitCond w i) →
      (afterRule (accepted h s) (cancelUnlock w) h.tag res data).src = w.src := fun hcond => by
    rw [afterRule_src_same _ _ _ _ _ (fun i => by rw [unitCond_accepted, unitCond_cancelUnlock, hcond i]),
      cancelUnlock_src]
  refine ⟨⟨?_, flagsCurrent_afterRule _ _ _ _ _, ?_⟩, (only_afterRule _ _ _ _ _).same .prof, ?_, hsame, hrest⟩
  · unfold answered
    rw [afterRule_port, cancelUnlock_port, hport, accepted_port]
  · intro p hpn
    by_cases hsrc : p = .src
    · subst hsrc
      have hcond : ∀ i, unitCond s i = unitCond w i := hs.resolve_left fun hm => hpn (by simp [hm])
      exact (hsame hcond).trans (hall .src hpn)
    · refine (hall p hpn).trans (hrest p ?_)
      simp only [List.mem_cons, not_or] at hpn ⊢
      simp_all
  · have := srcFollows_afterRule (accepted h s) (cancelUnlock w) h.tag res data
    unfold srcFollows at this ⊢
    simpa only [unitCond_accepted, cancelUnlock_src] using this

/-- A refused command changes nothing but the port, the flags and a pending unlock step (R13). -/
theorem command_refused {c : Cmd} {h : FrameHead} {arg : BitVec 24} {s : State} {r : Reason}
    (he : executes c h arg s = true) (hc : c ≠ .openSession)
    (ho : runCommand c arg (accepted h s) = refuse r (accepted h s)) :
    ∃ t, cmdFrame c h arg s = t ∧ commandRefused r h s t ∧ t.src = s.src := by
  obtain ⟨t, ht, d⟩ := command_outcome [] _ he hc ho (.refl _ _) (by decide) (.inr fun i => (unitCond_accepted h s i).symm)
  exact ⟨t, ht, ⟨d.done, d.prof.trans (cancelUnlock_prof_congr rfl)⟩, d.done.2.2.same .src⟩

end Sys2Proof.Machine
end

