-- ==== Sys2Proof/Laws/Batch.lean ====
section
/-!
SUPPORT. The stages of a tick batch: what each unit of Stage A does with one sample, what Stages A, B, C, E and F do, and where an
alarm joins the Alarm List, each stated once.
-/

namespace Sys2Proof.Machine

set_option Elab.async false

/-! ### The steps of Stage A, as updates -/

theorem stageLines_eq (x : SupState) (p : BitVec 16) (s : State) :
    stageLines x p s =
      (s.setFl (vmap (fun i u => lineStep x (vget s.prof.running.fl i) (p.getLsbD i.val) u) s.fl)).setClk
        { s.clk with wakeReq := s.clk.wakeReq || (x == .standby && linesWake s.fl
          (vmap (fun i u => lineStep x (vget s.prof.running.fl i) (p.getLsbD i.val) u) s.fl)) } := by
  unfold stageLines signalWake
  simp only []
  split
  · rename_i h
    have : (x == .standby && linesWake s.fl
          (vmap (fun i u => lineStep x (vget s.prof.running.fl i) (p.getLsbD i.val) u) s.fl)) = true := by
      simpa using h
    rw [this, Bool.or_true]
    rfl
  · rename_i h
    have : (x == .standby && linesWake s.fl
          (vmap (fun i u => lineStep x (vget s.prof.running.fl i) (p.getLsbD i.val) u) s.fl)) = false := by
      simpa using h
    rw [this, Bool.or_false]
    rfl

theorem stageLink_eq (x : SupState) (s : State) :
    stageLink x s = s.setLink (if linkOperates s.prof.running.link x then linkStep s.prof.running.link s.link else s.link) := by
  unfold stageLink
  split <;> rfl

theorem stageComps_eq (x : SupState) (p : BitVec 8) (s : State) :
    stageComps x p s = s.setOut { s.out with comps := (if x = .init then s.out.comps else
      vmap (fun i c => compStep s.prof.running.osv.filter (mismatch p s.out.level i) c) s.out.comps) } := by
  unfold stageComps
  split <;> rfl

/-- The units of Stage A write seven fields, each from the state in which the stage began (R70). -/
theorem unitSteps_fields (x : SupState) (inp : TickInputs) (s : State) :
    let u := runSteps (unitSteps x inp) s
    let fl := vmap (fun i u => lineStep x (vget s.prof.running.fl i) (inp.fl.getLsbD i.val) u) s.fl
    u.fl = fl ∧
    u.hb = vmap (fun i u => hbStep (vget s.prof.running.hb i) (inp.hb.getLsbD i.val) u) s.hb ∧
    u.link = (if linkOperates s.prof.running.link x then linkStep s.prof.running.link s.link else s.link) ∧
    u.wd = wdStep s.prof.running.wd s.now s.wd ∧
    u.out = { s.out with comps := (if x = .init then s.out.comps else
          vmap (fun i c => compStep s.prof.running.osv.filter (mismatch inp.outPins s.out.level i) c) s.out.comps) } ∧
    u.clk = clockStep inp.windowEnd { s.clk with wakeReq := s.clk.wakeReq || (x == .standby && linesWake s.fl fl) } ∧
    u.port = { s.port with s45 := hportFault s.port, s45Detail := s.port.consec.setWidth 8 } ∧ u.src = s.src := by
  simp only [runSteps, unitSteps, List.foldl_cons, List.foldl_nil, stageLines_eq, stageHeartbeats, stageLink_eq,
    stageWatchdog, stageComps_eq, stageClock, stagePort]
  simp [State.now]

/-- What one sample does to a fault line (R24 to R29). -/
theorem flStep_sampled (c : FlCfg) (level : Bool) (u : FlUnit) : lineSampled c level u (flStep c level u) := by
  obtain ⟨st, n, l, h, d⟩ := u
  obtain ⟨ah, m, f, w⟩ := c
  have hf : f = 0 ↔ f.toNat = 0 := ⟨fun e => by simp [e], fun e => BitVec.eq_of_toNat_eq e⟩
  by_cases ha : level = ah
  · cases st <;> cases h <;> cases m <;>
      simp [lineSampled, flStep, flClearSeen, flActive, flCountUp, flQualify, lineQualifies, ha] <;>
      (try split) <;> simp_all
  · cases st <;> cases h <;> cases m <;>
      simp [lineSampled, flStep, flClearSeen, flInactive, flCountDown, lineQualifies, lineReleases, ha] <;>
      (try split) <;> simp_all

theorem hbDetail_early (n : Word) : hbDetail false n = BitVec.ofNat 8 (min n.toNat 127) := by
  have h : min n.toNat 127 < 128 := by omega
  apply BitVec.eq_of_toNat_eq
  have e : (bit false : BitVec 1) = 0 := rfl
  rw [hbDetail, e, BitVec.toNat_append]
  simp
  omega

theorem hbDetail_late (n : Word) : hbDetail true n = BitVec.ofNat 8 (128 + min n.toNat 127) := by
  have h : min n.toNat 127 < 128 := by omega
  apply BitVec.eq_of_toNat_eq
  have e : (bit true : BitVec 1) = 1 := rfl
  rw [hbDetail, e, BitVec.toNat_append]
  have k := Nat.two_pow_add_eq_or_of_lt (b := min n.toNat 127) (i := 7) (by omega) 1
  have e : min n.toNat 127 % 128 = min n.toNat 127 := Nat.mod_eq_of_lt h
  simp [e] at k ⊢
  rw [← k]
  omega

theorem hbEdgeSeen_counted (c : HbCfg) (level : Bool) (u : HbUnit) :
    hbEdgeSeen c.edge u.ref level = edgeCounted c level u := by
  unfold hbEdgeSeen edgeCounted
  cases u.ref with
  | none => rfl
  | some r => cases r <;> cases level <;> cases c.edge <;> rfl

/-- What a RUNNING channel's measurement does (R34, R35, R36). -/
theorem hbMeasure_sampled (c : HbCfg) (e : Bool) (u : HbUnit) :
    hbMeasure c e u =
      if e = true then
        if c.min.toNat ≤ (u.counter + 1).toNat then { u with counter := 0, capt := u.counter + 1 }
        else { u with state := .frozen, counter := 0, capt := u.counter + 1, viol := .early
                      detail := BitVec.ofNat 8 (min (u.counter + 1).toNat 127) }
      else if c.max.toNat ≤ (u.counter + 1).toNat then
        { u with state := .frozen, counter := 0, capt := c.max, viol := .late
                 detail := BitVec.ofNat 8 (128 + min c.max.toNat 127) }
      else { u with counter := u.counter + 1 } := by
  have a : (HbViol.early == .late) = false := rfl
  have b : (HbViol.late == .late) = true := rfl
  unfold hbMeasure hbFreeze
  simp only [a, b, hbDetail_early, hbDetail_late]

/-- What one sample does to a heartbeat channel (R32 to R38). -/
theorem hbStep_sampled (c : HbCfg) (level : Bool) (u : HbUnit) : channelSampled c level u (hbStep c level u) := by
  unfold channelSampled hbStep
  rw [hbEdgeSeen_counted]
  cases hs : u.state <;> simp [-BitVec.toNat_add]
  rw [hbMeasure_sampled]
  generalize u.counter + 1 = interval
  by_cases early : interval.toNat < c.min.toNat <;> by_cases late : interval.toNat < c.max.toNat <;>
    cases edgeCounted c level u <;> simp [early, late]

/-- What one step does to a comparator (R147, R148). -/
theorem compStep_sampled (f : BitVec 4) (m : Bool) (c : Comp) : comparatorSampled f m c (compStep f m c) := by
  unfold comparatorSampled compStep compSample compCount
  by_cases h : c.settle = 0 <;> simp [h]

/-- What one step does to the clock monitor (R172). -/
theorem clockStep_sampled (w : Bool) (c : Clock) : clockSampled w c (clockStep w c) := by
  cases w
  · by_cases h : 199 ≤ c.winCount
    · simp [clockSampled, clockStep, clockMissing, h]
    · simp [clockSampled, clockStep, clockMissing, h]
  · simp [clockSampled, clockStep, clockJudge, clockDetail]

/-- What Stage A does to the watchdog (R118). -/
theorem wdStep_sampled (s : State) : watchdogSampled s (stageWatchdog s) := by
  unfold watchdogSampled stageWatchdog wdStep
  cases h : s.wd.phase <;> simp [h, wdLate, wdViolation, wdClosed, wdOpen, State.setWd, -ite_self]

/-- When one sample completes a qualification (R25, R27). -/
theorem flQualifies_step (c : FlCfg) (level : Bool) (u : FlUnit) :
    flQualifies u (flStep c level u) = lineQualifies c level u := by
  obtain ⟨st, n, l, h, d⟩ := u
  obtain ⟨ah, m, f, w⟩ := c
  have hf : f = 0 ↔ f.toNat = 0 := ⟨fun e => by simp [e], fun e => BitVec.eq_of_toNat_eq e⟩
  by_cases ha : level = ah
  · by_cases h0 : f.toNat = 0 <;> by_cases h1 : f.toNat ≤ n <;> cases st <;> cases h <;> cases m <;>
      simp [flQualifies, flQual, flStep, flClearSeen, flActive, flCountUp, flQualify, lineQualifies, ha, h0, h1]
      <;> simp_all
  · by_cases h0 : f.toNat = 0 <;> by_cases h1 : f.toNat ≤ n <;> cases st <;> cases h <;> cases m <;>
      simp [flQualifies, flQual, flStep, flClearSeen, flInactive, flCountDown, lineQualifies, ha, h0, h1]

theorem linesWake_step (x : SupState) (cfg : Fin 16 → FlCfg) (pin : Fin 16 → Bool) (v : Vector FlUnit 16) :
    linesWake v (vmap (fun i u => lineStep x (cfg i) (pin i) u) v) =
      (List.finRange 16).any (fun n => flSampled x (cfg n) && lineQualifies (cfg n) (pin n) (vget v n)) := by
  unfold linesWake
  congr 1
  funext i
  rw [vget_vmap, lineStep]
  cases h : flSampled x (cfg i)
  · simp [flQualifies]
  · simp [flQualifies_step]


/-- What the resumed link is (R58). -/
theorem linkResume_rxStart (c : LinkCfg) (l : Link) :
    linkResume c (rxStart l) =
      { l with
        rx := if receives l.rx then l.rx else .notReady .uncounted
        nodes := if l.suspended then vmap (restartSilence c) l.nodes else l.nodes
        beacon := if l.suspended then 0 else l.beacon, suspended := false } := by
  unfold linkResume rxStart
  cases h : l.suspended <;> cases h2 : l.rx <;> simp [receives, h] <;> (try simp [h2])
  all_goals (rw [← h2, ← h])


/-- What Stage A does to an operating link (R43, R45, R47, R58). -/
theorem linkStep_sampled (s a : State) (hr : s.clk.phase = .running)
    (ho : linkOperates s.prof.running.link s.sup.state = true)
    (ha : a.link = linkStep s.prof.running.link s.link) : linkSampled s a := by
  refine ⟨linkResume s.prof.running.link (rxStart s.link),
    (linkIntake s.prof.running.link (linkResume s.prof.running.link (rxStart s.link))).2, ?_, ?_, ?_, ?_, ?_⟩
  · rw [linkResume_rxStart]
  · intro n
    rw [linkResume_rxStart]
    cases h : s.link.suspended
    · simp
    · simp [restartSilence]
  · simp [exec, execIntake, inBatch, ticking, hr, intakeOne, ho]
    rfl
  · intro n
    rw [ha]
    simp only [linkStep, judgeS44]
    generalize linkResume s.prof.running.link (rxStart s.link) = l1
    generalize s.prof.running.link = c
    have hk : l1.inbox.head?.map (fun m => m.node) = some n →
        watched c n = true → (linkIntake c l1).1 = some n := by
      unfold linkIntake
      cases l1.inbox with
      | nil => simp
      | cons m r => simp; intro e w; subst e; simp [w]
    have hk' : (linkIntake c l1).1 = some n → l1.inbox.head?.map (fun m => m.node) = some n := by
      unfold linkIntake
      cases l1.inbox with
      | nil => simp
      | cons m r => simp; split <;> simp
    rw [vget_vmap, silenceStep]
    by_cases w : watched c n = false
    · simp [w]
    · have w' : watched c n = true := by simpa using w
      simp only [w', tenMsTicks]
      by_cases e : (linkIntake c l1).1 = some n
      · simp [e, hk' e]
      · have e' : ¬ l1.inbox.head?.map (fun m => m.node) = some n := fun h => e (hk h w')
        simp only [e, e']
        rfl
  · rw [ha]
    rfl

/-- The copy at the end of Stage A writes the records and nCRIT alone (R59). -/
theorem copied (u : State) :
    onlyParts [.src, .crit] u (refreshCrit (copyAll u)) ∧
      (refreshCrit (copyAll u)).src = vmap (copyOne u) u.src ∧
      (refreshCrit (copyAll u)).crit = critNow (refreshCrit (copyAll u)) := by
  refine ⟨(only_copyAll _).mono.trans (only_refreshCrit _).mono, ?_, ?_⟩
  · simp [refreshCrit, copyAll]
  · simp [refreshCrit, critNow]

/-- All that Stage A does (R59, R69, R70). -/
theorem stageA_runs (inp : TickInputs) (s : State) (hr : s.clk.phase = .running) :
    stageARuns inp s (stageA s.sup.state inp s) := by
  have hu := unitSteps_fields s.sup.state inp s
  have ho := only_stageA s.sup.state inp s
  have hc := copied (runSteps (unitSteps s.sup.state inp) s)
  unfold stageA at ho ⊢
  generalize runSteps (unitSteps s.sup.state inp) s = u at *
  generalize refreshCrit (copyAll u) = a at *
  obtain ⟨h1, h2, h3, h4, h5, h6, h7, h8⟩ := hu
  obtain ⟨hs, hsrc, hcrit⟩ := hc
  have e1 : a.fl = u.fl := hs.same .fl
  have e2 : a.hb = u.hb := hs.same .hb
  have e3 : a.link = u.link := hs.same .link
  have e4 : a.wd = u.wd := hs.same .wd
  have e5 : a.out = u.out := hs.same .out
  have e6 : a.clk = u.clk := hs.same .clk
  have e7 : a.port = u.port := hs.same .port
  refine ⟨ho, fun n => ?lines, fun n => ?channels, ?link, ?watchdog, ?outputs, fun i => ?comparators, ?monitor, ?clock,
    ?port, fun i => ?records, hcrit⟩
  case lines =>
    rw [e1, h1, vget_vmap, lineStep]
    split
    · exact flStep_sampled _ _ _
    · rfl
  case channels =>
    rw [e2, h2, vget_vmap]
    exact hbStep_sampled _ _ _
  case link =>
    split <;> rename_i hl
    · exact linkStep_sampled _ _ hr hl (by simp [e3, h3, hl])
    · simp [e3, h3, hl]
  case watchdog =>
    rw [watchdogSampled, e4, h4]
    exact wdStep_sampled s
  case outputs => rw [e5, h5]
  case comparators =>
    rw [e5, h5]
    split
    · rfl
    · rw [vget_vmap]
      exact compStep_sampled _ _ _
  case monitor =>
    rw [e6, h6]
    exact clockStep_sampled inp.windowEnd { s.clk with wakeReq := s.clk.wakeReq || (s.sup.state == .standby && linesWake s.fl
      (vmap (fun i u => lineStep s.sup.state (vget s.prof.running.fl i) (inp.fl.getLsbD i.val) u) s.fl)) }
  case clock =>
    rw [e6, h6, linesWake_step, clockStep]
    split
    · rfl
    · split <;> rfl
  case port =>
    rw [e7, h7]
    rfl
  case records =>
    rw [hsrc, vget_vmap, h8, copyOne]
    have k1 : unitCond a i = unitCond u i := unitCond_congr hs.mono (by rw [e7]) i
    have k2 : unitNode a i = unitNode u i := unitNode_congr hs.mono i
    have k3 : unitDetail a i = unitDetail u i := by
      unfold unitDetail
      rw [k1, unitDetailOn_congr hs.mono (by rw [e7]) i]
    rw [k1, k2, k3]

/-! ### Stage B -/

theorem cancelUnlock_setSrc (x : Vector SrcRec 56) (s : State) :
    cancelUnlock (s.setSrc x) = (cancelUnlock s).setSrc x := by
  obtain ⟨⟩ := s
  unfold cancelUnlock
  simp only [setSrc_prof]
  split <;> rfl

theorem changeState_setSrc (y : SupState) (x : Vector SrcRec 56) (s : State) :
    changeState y (s.setSrc x) = (changeState y s).setSrc x := by
  unfold changeState
  rw [← cancelUnlock_setSrc]
  rfl

theorem dropAlarms_emptied {g : Alarm → Bool} {s : State}
    (h : s.sup.state = .alert ∧ s.sup.alarms ≠ [] ∧ s.sup.alarms.filter (fun x => !g x) = []) :
    dropAlarms g s = endEpisode (changeState .normal
      (s.setSup { s.sup with alarms := s.sup.alarms.filter (fun x => !g x) })) := if_pos h

theorem dropAlarms_kept {g : Alarm → Bool} {s : State}
    (h : ¬ (s.sup.state = .alert ∧ s.sup.alarms ≠ [] ∧ s.sup.alarms.filter (fun x => !g x) = [])) :
    dropAlarms g s = s.setSup { s.sup with alarms := s.sup.alarms.filter (fun x => !g x) } := if_neg h

theorem dropAlarms_setSrc (g : Alarm → Bool) (x : Vector SrcRec 56) (s : State) :
    dropAlarms g (s.setSrc x) = (dropAlarms g s).setSrc x := by
  have hs (v : State) (y : Supervisor) : (v.setSrc x).setSup y = (v.setSup y).setSrc x := rfl
  have he (v : State) : endEpisode (v.setSrc x) = (endEpisode v).setSrc x := rfl
  by_cases h : s.sup.state = .alert ∧ s.sup.alarms ≠ [] ∧ s.sup.alarms.filter (fun x => !g x) = []
  · rw [dropAlarms_emptied h, dropAlarms_emptied (s := s.setSrc x) h, hs, changeState_setSrc, he]
    rfl
  · rw [dropAlarms_kept h, dropAlarms_kept (s := s.setSrc x) h, hs]
    rfl

theorem clearEffects_setSrc (i : SrcId) (x : Vector SrcRec 56) (s : State) :
    clearEffects i (s.setSrc x) = (clearEffects i s).setSrc x := by
  unfold clearEffects dropAlarmOf
  rw [← dropAlarms_setSrc]
  rfl

theorem clearEffects_running (i : SrcId) (s : State) : (clearEffects i s).prof.running = s.prof.running := by
  unfold clearEffects dropAlarmOf dropAlarms
  simp only []
  split <;> simp [endEpisode]

theorem clearFold_setSrc (xs : List SrcId) (x : Vector SrcRec 56) (u : State) :
    xs.foldl (fun u i => clearEffects i u) (u.setSrc x) = (xs.foldl (fun u i => clearEffects i u) u).setSrc x := by
  induction xs generalizing u with
  | nil => rfl
  | cons a xs ih => rw [List.foldl_cons, clearEffects_setSrc, ih, List.foldl_cons]

theorem setSrc_self (s : State) : s.setSrc s.src = s := by cases s; rfl

theorem setSrc_twice (s : State) (x y : Vector SrcRec 56) : (s.setSrc x).setSrc y = s.setSrc y := by cases s; rfl

/-- The records judged one after the other. -/
theorem sourceFold_eq (l : List SrcId) (hn : l.Nodup) (s : State) (occs : List Occ) :
    l.foldl sourceStep (s, occs) =
      (((l.filter (fun i => (srcStep (vget s.prof.running.desc i) (vget s.src i)).2 == .clear)).foldl
          (fun u i => clearEffects i u) s).setSrc
        (vmap (fun i r => if i ∈ l then (srcStep (vget s.prof.running.desc i) r).1 else r) s.src),
      occs ++ (l.filter (fun i => (srcStep (vget s.prof.running.desc i) (vget s.src i)).2 == .raise)).map
        (fun i => raiseOcc i (vget s.prof.running.desc i) (vget s.src i))) := by
  induction l generalizing s occs with
  | nil =>
    have : vmap (fun i r => if i ∈ ([] : List SrcId) then (srcStep (vget s.prof.running.desc i) r).1 else r) s.src = s.src :=
      vmap_id _ _ (by simp)
    rw [this]
    simp [setSrc_self]
  | cons j l ih =>
    have hj : j ∉ l := (List.nodup_cons.mp hn).1
    rw [List.foldl_cons]
    have hrun : (sourceStep (s, occs) j).1.prof.running = s.prof.running := by
      unfold sourceStep
      simp only []
      split <;> simp [clearEffects_running]
    have hsrc : (sourceStep (s, occs) j).1.src = vset s.src j (srcStep (vget s.prof.running.desc j) (vget s.src j)).1 := by
      unfold sourceStep
      simp only []
      split <;> simp [clearEffects_setSrc]
    have hother (i) (hi : i ∈ l) : vget (sourceStep (s, occs) j).1.src i = vget s.src i := by
      rw [hsrc, vget_vset_ne]
      rintro rfl
      exact hj hi
    have hfst : (sourceStep (s, occs) j).1 =
        (if (srcStep (vget s.prof.running.desc j) (vget s.src j)).2 = .clear then clearEffects j s else s).setSrc
          (sourceStep (s, occs) j).1.src := by
      rw [hsrc]
      unfold sourceStep
      simp only []
      split <;> rename_i hx <;> simp [hx, clearEffects_setSrc]
    have hsnd : (sourceStep (s, occs) j).2 =
        occs ++ if (srcStep (vget s.prof.running.desc j) (vget s.src j)).2 = .raise then
          [raiseOcc j (vget s.prof.running.desc j) (vget s.src j)] else [] := by
      unfold sourceStep
      simp only []
      split <;> rename_i hx <;> simp [hx]
    have hpair : sourceStep (s, occs) j = ((sourceStep (s, occs) j).1, (sourceStep (s, occs) j).2) := rfl
    rw [hpair, ih (List.nodup_cons.mp hn).2]
    have hc1 : l.filter (fun i => (srcStep (vget s.prof.running.desc i) (vget (sourceStep (s, occs) j).1.src i)).2 == .clear)
        = l.filter (fun i => (srcStep (vget s.prof.running.desc i) (vget s.src i)).2 == .clear) :=
      List.filter_congr (fun i hi => by rw [hother i hi])
    have hc2 : l.filter (fun i => (srcStep (vget s.prof.running.desc i) (vget (sourceStep (s, occs) j).1.src i)).2 == .raise)
        = l.filter (fun i => (srcStep (vget s.prof.running.desc i) (vget s.src i)).2 == .raise) :=
      List.filter_congr (fun i hi => by rw [hother i hi])
    rw [hrun, hc1, hc2]
    refine Prod.ext ?_ ?_
    · simp only []
      have hv : vmap (fun i r => if i ∈ l then (srcStep (vget s.prof.running.desc i) r).1 else r)
          (sourceStep (s, occs) j).1.src =
          vmap (fun i r => if i ∈ j :: l then (srcStep (vget s.prof.running.desc i) r).1 else r) s.src := by
        apply vget_ext
        intro i
        rw [vget_vmap, vget_vmap]
        by_cases hij : i = j
        · subst hij
          simp [hj, hsrc]
        · rw [hsrc, vget_vset_ne _ _ _ _ hij]
          simp [hij]
      rw [hv, hfst, clearFold_setSrc]
      rw [List.filter_cons]
      generalize vmap _ _ = w
      by_cases hcl : (srcStep (vget s.prof.running.desc j) (vget s.src j)).2 = .clear
      · simp [hcl, setSrc_twice]
      · simp [hcl, setSrc_twice]
    · simp only []
      rw [hsnd, List.filter_cons]
      have hm : (l.filter (fun i => (srcStep (vget s.prof.running.desc i) (vget s.src i)).2 == .raise)).map
            (fun i => raiseOcc i (vget s.prof.running.desc i) (vget (sourceStep (s, occs) j).1.src i)) =
          (l.filter (fun i => (srcStep (vget s.prof.running.desc i) (vget s.src i)).2 == .raise)).map
            (fun i => raiseOcc i (vget s.prof.running.desc i) (vget s.src i)) :=
        List.map_congr_left (fun i hi => by rw [hother i (List.mem_filter.mp hi).1])
      rw [hm]
      by_cases hr : (srcStep (vget s.prof.running.desc j) (vget s.src j)).2 = .raise <;> simp [hr]

/-- All that Stage B does (R61, R71). -/
theorem stageB_runs (a : State) : stageBRuns a (stageB a).1 (stageB a).2 := by
  have h := sourceFold_eq (List.finRange 56) (List.nodup_finRange 56) a []
  unfold stageB
  simp only []
  have hfl := (only_sourceFold (List.finRange 56) (a, [])).same .fl
  rw [h] at hfl ⊢
  refine ⟨vmap (fun i r => (srcStep (vget a.prof.running.desc i) r).1) a.src, ?_, ?_, ?_, ?_⟩
  · intro i
    rw [vget_vmap]
  · simp
  · rw [clearFold_setSrc]
    simp
  · intro n
    rw [setFl_fl, vget_vmap]
    simp only [samePart] at hfl
    rw [hfl]
    unfold flMarkSeen
    cases hh : (vget a.fl n).hold <;> simp
    all_goals (rw [← hh])

/-! ### Stages C, E and F -/

theorem insertOcc_perm (x : Occ) (l : List Occ) : (insertOcc x l).Perm (x :: l) := by
  induction l with
  | nil => exact .refl _
  | cons y ys ih =>
    unfold insertOcc
    split
    · exact .refl _
    · exact (List.Perm.cons y ih).trans (List.Perm.swap x y ys)

theorem arbitrate_perm (l : List Occ) : (arbitrate l).Perm l := by
  induction l with
  | nil => exact .refl _
  | cons x xs ih => exact (insertOcc_perm x _).trans (ih.cons x)

theorem arbitrated_of_before {x y : Occ} (h : occBefore x y = true) : arbitrated x y := by
  unfold occBefore at h
  unfold arbitrated
  split at h
  · rename_i hr
    split at h
    · rename_i hp
      simp at h
      exact .inr ⟨hr, .inr ⟨hp, by omega⟩⟩
    · simp at h; omega
  · simp at h; omega

theorem arbitrated_of_not {x y : Occ} (h : ¬ occBefore x y = true) : arbitrated y x := by
  unfold occBefore at h
  unfold arbitrated
  split at h
  · rename_i hr
    split at h
    · rename_i hp
      simp at h
      exact .inr ⟨hr.symm, .inr ⟨hp.symm, h⟩⟩
    · rename_i hp
      simp at h
      have : y.priority.toNat ≠ x.priority.toNat := fun e => hp (BitVec.eq_of_toNat_eq e.symm)
      exact .inr ⟨hr.symm, .inl (by omega)⟩
  · simp at h; omega

/-- The place of an occurrence in arbitration, as one number: class, then priority, then source number (R68). -/
def arbitrationRank (o : Occ) : Nat := (clsRank o.cls * 2 ^ 4 + o.priority.toNat) * 56 + o.src.val

theorem arbitrated_iff_rank (x y : Occ) : arbitrated x y ↔ arbitrationRank x ≤ arbitrationRank y := by
  have hx := x.src.isLt
  have hy := y.src.isLt
  have px := x.priority.isLt
  have py := y.priority.isLt
  simp only [arbitrated, arbitrationRank, ← BitVec.toNat_inj]
  omega

theorem arbitrated_trans {x y z : Occ} (h1 : arbitrated x y) (h2 : arbitrated y z) : arbitrated x z :=
  (arbitrated_iff_rank x z).mpr
    (Nat.le_trans ((arbitrated_iff_rank x y).mp h1) ((arbitrated_iff_rank y z).mp h2))

theorem insertOcc_pairwise (x : Occ) (l : List Occ) (h : l.Pairwise arbitrated) :
    (insertOcc x l).Pairwise arbitrated := by
  induction l with
  | nil => simp [insertOcc]
  | cons y ys ih =>
    unfold insertOcc
    obtain ⟨hy, hys⟩ := List.pairwise_cons.mp h
    split
    · rename_i hb
      have hxy := arbitrated_of_before hb
      refine List.pairwise_cons.mpr ⟨?_, h⟩
      intro z hz
      rcases List.mem_cons.mp hz with rfl | hz
      · exact hxy
      · exact arbitrated_trans hxy (hy z hz)
    · rename_i hb
      refine List.pairwise_cons.mpr ⟨?_, ih hys⟩
      intro z hz
      rcases List.mem_cons.mp ((insertOcc_perm x ys).mem_iff.mp hz) with rfl | hz
      · exact arbitrated_of_not hb
      · exact hy z hz

theorem arbitrate_pairwise (l : List Occ) : (arbitrate l).Pairwise arbitrated := by
  induction l with
  | nil => exact .nil
  | cons x xs ih => exact insertOcc_pairwise x _ ih

/-- All that Stage C does (R68, R71). -/
theorem stageC_runs (occs : List Occ) (b : State) : stageCRuns occs b (refreshCrit (stageC occs b)) :=
  ⟨arbitrate occs, arbitrate_perm occs, arbitrate_pairwise occs, rfl⟩

/-- All that Stage E does (R73, R140 to R145, R147). -/
theorem stageE_runs (d : State) : stageERuns d (stageE d) := by
  refine ⟨by simp [stageE], by simp [stageE, driveLevels], ?_, by simp [stageE, driveLevels], ?_⟩
  · simp only [pairAfter]
    have hs : (stageE d).sup = d.sup := (only_stageE d).same .sup
    have hp : (stageE d).prof = d.prof := (only_stageE d).same .prof
    have hn : (stageE d).now = d.now := congrArg Clock.tick ((only_stageE d).same .clk)
    have ho : (stageE d).out.pair = pairNext d.prof.running.ep d.now (pairNeed d.sup.state d.sup.active) d.out.pair := by
      simp [stageE]
    rw [hs, hp, hn, ho]
    generalize d.prof.running.ep = c
    refine ⟨?_, ?_, ?_, ?_⟩
    · intro h; simp [h, pairNeed, pairNext]
    · rintro (h | ⟨h, h'⟩) <;> simp [h, pairNeed, pairNext]
      simp [h']
    · rintro (h | h) <;> simp [h, pairNeed, pairNext]
    · intro h
      have : pairNeed d.sup.state d.sup.active = .healthy := by
        rcases h with h | h | ⟨h, h'⟩ <;> simp [h, pairNeed]
        simp [h']
      rw [this]
      refine ⟨?_, ?_⟩
      · rintro (h | h | h) <;> rw [h] <;> simp [pairNext, healthyBegin, antiphaseBegin, msTicks] <;> cases c.proto <;> simp
      · intro ph due pend h
        rw [h]
        cases hd : isDue d.now due <;> simp [pairNext, exchangeStep, hd, msTicks]
  · intro j
    simp only [stageE, driveLevels, setOut_out, vget_vmap, compSettle]
    rfl

/-- All that Stage F does (R53, R73, R77). -/
theorem stageF_runs (x : SupState) (e : State) : stageFRuns x e (stageF x e) := by
  have hl : (stageF x e).link = linkReport e.prof.running.link x e.sup.state e.link := by simp [stageF, refreshAttn]
  refine ⟨by simp [stageF, refreshAttn], ?_, ?_, ?_⟩ <;> rw [hl] <;> generalize e.prof.running.link = c
  · rintro (h | h)
    · simp [linkReport, h]
    · cases c.enable <;> simp [linkReport, h]
  · intro h h'
    subst h'
    simp only [linkReport, h, handRequest, if_true]
  · intro h h1 h2
    have ha : linkReport c x e.sup.state e.link = announce c e.sup.state e.link := by
      cases x <;> first | exact absurd rfl h1 | exact absurd rfl h2 | simp [linkReport, h]
    rw [ha]
    by_cases q : e.link.announced ≠ some e.sup.state ∨ c.beaconPeriod.toNat * 100 ≤ e.link.beacon + 1
    · rw [if_pos q]
      have q' : e.link.announced ≠ some e.sup.state ∨ beaconDue c e.link = true :=
        q.imp_right (fun h => decide_eq_true h)
      exact if_pos q'
    · rw [if_neg q]
      have q' : ¬ (e.link.announced ≠ some e.sup.state ∨ beaconDue c e.link = true) :=
        fun r => q (r.imp_right (fun h => of_decide_eq_true h))
      exact if_neg q'

/-! ### The Alarm List -/

/-- Where a new entry joins the Alarm List (R85). -/
theorem insertAlarm_split (x : Alarm) (l : List Alarm) :
    ∃ before after, l = before ++ after ∧ insertAlarm x l = before ++ x :: after ∧
      (∀ y ∈ before, ¬ alarmFirst x y) ∧ ∀ y, after.head? = some y → alarmFirst x y := by
  have hb (y : Alarm) : alarmBefore x y = true ↔ alarmFirst x y := by
    unfold alarmBefore alarmFirst
    by_cases h : x.expiry = y.expiry <;> simp [h]
  induction l with
  | nil => exact ⟨[], [], rfl, rfl, by simp, by simp⟩
  | cons y ys ih =>
    by_cases h : alarmBefore x y = true
    · exact ⟨[], y :: ys, rfl, by simp [insertAlarm, h], by simp, by simp [← hb, h]⟩
    · obtain ⟨b, a, h1, h2, h3, h4⟩ := ih
      refine ⟨y :: b, a, by simp [h1], by simp [insertAlarm, h, h2], ?_, h4⟩
      intro z hz
      rcases List.mem_cons.mp hz with rfl | hz
      · rwa [← hb]
      · exact h3 z hz

end Sys2Proof.Machine
end

