-- ==== Sys2Proof/Laws/Link.lean ====
section
/-!
SUPPORT. The receiver level by level (R40, R41): what a byte frame and a whole message on LRX do, each said once.
-/

namespace Sys2Proof.Machine

@[simp] theorem setLink_self (s : State) : s.setLink s.link = s := rfl

@[simp] theorem setLink_setLink (s : State) (x y : Link) : (s.setLink x).setLink y = s.setLink y := rfl

/-- The levels of a byte frame are its byte, or a framing error when the stop bit is low (R40). -/
theorem linkByte_byteFrame (b : Byte) (stop : Bool) : linkByte (byteFrame b stop) = if stop then some b else none := by
  cases stop
  · rfl
  · revert b
    decide +kernel

/-- The link with its receiver in another state. -/
def Link.withRx (r : RxState) (l : Link) : Link := { l with rx := r }

/-- The checks of a complete message do not look at the receiver (R42). -/
theorem pemReceive_withRx (c : LinkCfg) (b0 b1 b2 b3 : Byte) (r : RxState) (l : Link) :
    pemReceive c b0 b1 b2 b3 (l.withRx r) = pemReceive c b0 b1 b2 b3 l := by
  unfold pemReceive pemCheck Link.withRx inboxPut
  repeat' split
  all_goals rfl

theorem rxByte_withRx (c : LinkCfg) (bytes : List Byte) (b : Byte) (r : RxState) (l : Link) :
    rxByte c bytes b (l.withRx r) = rxByte c bytes b l := by
  rcases bytes with _ | ⟨b0, _ | ⟨b1, _ | ⟨b2, rest⟩⟩⟩ <;> first | rfl | exact pemReceive_withRx c b0 b1 b2 b r l

/-- A receiver that takes messages takes every level itself. -/
theorem lrxLevel_receives {s : State} (h : receives s.link.rx = true) (x : Bool) :
    lrxLevel s x = s.setLink (rxLevel s.prof.running.link x s.link) := by
  have hw : watchesWake s = false := by
    unfold watchesWake
    cases hr : s.link.rx with
    | wakeWatch idle => simp [receives, hr] at h
    | _ => cases s.sup.state <;> rfl
  rw [lrxLevel, hw]
  rfl

/-- Inside a byte every level is taken until the tenth (R40). -/
theorem lrx_inByte (bytes : List Byte) (s : State) : ∀ (l bits : List Bool), l.length + bits.length ≤ 9 → bits ≠ [] →
    l.foldl lrxLevel (s.setLink (s.link.withRx (.assembling bytes bits))) =
      s.setLink (s.link.withRx (.assembling bytes (bits ++ l))) := by
  intro l
  induction l with
  | nil => intro bits _ _; rw [List.append_nil]; rfl
  | cons x l ih =>
    intro bits h9 h0
    have hx : lrxLevel (s.setLink (s.link.withRx (.assembling bytes bits))) x =
        s.setLink (s.link.withRx (.assembling bytes (bits ++ [x]))) := by
      simp only [List.length_cons] at h9
      have h : bits.length < 9 := by omega
      rw [lrxLevel_receives rfl]
      simp [rxLevel, rxTake, Link.withRx, h, h0]
    rw [List.foldl_cons, hx, ih _ (by simp only [List.length_cons, List.length_append, List.length_nil] at h9 ⊢; omega)
      (by simp), List.append_assoc]
    rfl

/-- The tenth level ends a byte (R40). -/
theorem lrx_stop (bytes : List Byte) (s : State) (bits : List Bool) (x : Bool) (h9 : bits.length = 9) :
    lrxLevel (s.setLink (s.link.withRx (.assembling bytes bits))) x =
      s.setLink (match linkByte (bits ++ [x]) with
        | some b => rxByte s.prof.running.link bytes b (s.link.withRx (.assembling bytes bits))
        | none => (countFraming s.link).withRx (.notReady .afterFail)) := by
  have h0 : bits ≠ [] := fun h => by simp [h] at h9
  rw [lrxLevel_receives rfl]
  have ht : rxLevel s.prof.running.link x (s.link.withRx (.assembling bytes bits)) =
      rxTake s.prof.running.link x bytes bits (s.link.withRx (.assembling bytes bits)) := rfl
  show s.setLink (rxLevel s.prof.running.link x (s.link.withRx (.assembling bytes bits))) = _
  rw [ht, rxTake, if_neg (fun h => h0 h.1), if_neg (by omega)]
  cases linkByte (bits ++ [x]) <;> rfl

/-- A byte frame at a receiver that is ready, or searches for the next start bit of a message (R40, R41). -/
theorem lrx_byteFrame {bytes : List Byte} {s : State} (h : s.link.rx = .assembling bytes [] ∨ s.link.rx = .ready ∧ bytes = [])
    (b : Byte) (stop : Bool) :
    (byteFrame b stop).foldl lrxLevel s =
      s.setLink (if stop then rxByte s.prof.running.link bytes b s.link
        else (countFraming s.link).withRx (.notReady .afterFail)) := by
  have first : lrxLevel s false = s.setLink (s.link.withRx (.assembling bytes [false])) := by
    rcases h with h | ⟨h, rfl⟩ <;> rw [lrxLevel_receives (by simp [receives, h])] <;> simp [rxLevel, rxTake, h] <;> rfl
  have nine : (((byteFrame b stop).drop 1).take 8).foldl lrxLevel (lrxLevel s false) =
      s.setLink (s.link.withRx (.assembling bytes ((byteFrame b stop).take 9))) := by
    rw [first, lrx_inByte bytes s _ [false] (by rfl) (by simp)]
    rfl
  have all : (byteFrame b stop).foldl lrxLevel s =
      lrxLevel ((((byteFrame b stop).drop 1).take 8).foldl lrxLevel (lrxLevel s false)) stop := rfl
  rw [all, nine, lrx_stop bytes s _ _ rfl, show (byteFrame b stop).take 9 ++ [stop] = byteFrame b stop from rfl,
    linkByte_byteFrame]
  cases stop
  · rfl
  · exact congrArg s.setLink (rxByte_withRx _ _ _ _ _)

/-- A whole message at a ready receiver is received and checked (R40 to R42). -/
theorem lrx_message {s : State} (h : s.link.rx = .ready) (b0 b1 b2 b3 : Byte) :
    (byteFrame b0 true ++ byteFrame b1 true ++ byteFrame b2 true ++ byteFrame b3 true).foldl lrxLevel s =
      s.setLink (pemReceive s.prof.running.link b0 b1 b2 b3 s.link) := by
  have push (r : List Byte) (b : Byte) (hr : r.length < 3) (l : Link) :
      rxByte s.prof.running.link r b l = l.withRx (.assembling (r ++ [b]) []) := by
    rcases r with _ | ⟨_, _ | ⟨_, _ | ⟨_, _⟩⟩⟩ <;> first | rfl | (simp only [List.length_cons] at hr; omega)
  have more (r : List Byte) (b : Byte) (hr : r.length < 3) :
      (byteFrame b true).foldl lrxLevel (s.setLink (s.link.withRx (.assembling r []))) =
        s.setLink (s.link.withRx (.assembling (r ++ [b]) [])) := by
    rw [lrx_byteFrame (bytes := r) (.inl rfl), if_pos rfl]
    exact congrArg s.setLink ((rxByte_withRx _ r b _ _).trans (push r b hr _))
  rw [List.foldl_append, List.foldl_append, List.foldl_append, lrx_byteFrame (bytes := []) (.inr ⟨h, rfl⟩), if_pos rfl,
    push [] b0 (by decide)]
  simp only [List.nil_append]
  rw [more [b0] b1 (by simp), List.cons_append, List.nil_append, more [b0, b1] b2 (by simp), lrx_byteFrame (bytes := [b0, b1, b2]) (.inl rfl), if_pos rfl]
  exact congrArg s.setLink (rxByte_withRx _ _ _ _ _)

/-- A level at a receiver that counts nothing changes nothing (R41). -/
theorem lrx_deaf {s : State} (h : ∀ x, lrxLevel s x = s) (l : LrxLevels) : l.foldl lrxLevel s = s := by
  induction l with
  | nil => rfl
  | cons x l ih => rw [List.foldl_cons, h x, ih]

end Sys2Proof.Machine
end

