-- ==== Sys2Proof/Laws/NvStore.lean ====
section
/-!
SUPPORT. How nonvolatile content is judged when it is read (R135, R152): what is written whole, cut off or damaged, each said
once; and what the abort of a session does to its commit (R161).
-/

namespace Sys2Proof.Machine

/-! ### Check codes that do not match -/

/-- A code moved by 1 to 2^w - 1 is another code. -/
theorem code_shifted {w : Nat} (x : BitVec w) (n : Nat) (h0 : 0 < n) (hn : n < 2 ^ w) : x + BitVec.ofNat w n ≠ x := by
  intro e
  have h := congrArg BitVec.toNat (BitVec.add_right_eq_self.mp e)
  simp [Nat.mod_eq_of_lt hn] at h
  omega

/-- A code in which bits have flipped is another code. -/
theorem code_flipped {w : Nat} {x flips : BitVec w} (h : flips ≠ 0) : x ^^^ flips ≠ x := fun e =>
  h (by simpa using congrArg (x ^^^ ·) e)

/-! ### Claims and slots -/

@[simp] theorem claimPasses_makeClaim (o : Byte) : claimPasses (makeClaim o) = true := by simp [claimPasses, makeClaim]

/-- A claim passes exactly when it is the one made for its ordinal (R135). -/
theorem claimPasses_iff (c : Claim) : claimPasses c = true ↔ c = makeClaim c.ord := by
  cases c
  simp [claimPasses, makeClaim]

/-- The claim of an interrupted writing or erasure fails (R137, R139). -/
@[simp] theorem claimPasses_failedClaim (r : Nat) : claimPasses (failedClaim r) = false := by
  have h := code_shifted (Config.claimCheck (BitVec.ofNat 8 (r / 255))) (r % 255 + 1) (by omega) (by omega)
  simp only [claimPasses, failedClaim, beq_eq_false_iff_ne]
  exact h

@[simp] theorem claimOrd_erasedSlot : claimOrd erasedSlot = none := rfl

@[simp] theorem claimOrd_writtenSlot (o : Byte) (e : ArchEntry) : claimOrd (writtenSlot o e) = some o := by
  simp [claimOrd, writtenSlot, makeClaim, claimPasses]

@[simp] theorem readSlot_erasedSlot : readSlot erasedSlot = .empty := rfl

@[simp] theorem readSlot_writtenSlot (o : Byte) (e : ArchEntry) : readSlot (writtenSlot o e) = .valid o e := by
  simp [readSlot, writtenSlot, bodyPasses, makeClaim, claimPasses]

/-- A slot reads VALID exactly when it was written whole (R135). -/
theorem readSlot_valid (x : ArchSlot) (o : Byte) (e : ArchEntry) : readSlot x = .valid o e ↔ x = writtenSlot o e := by
  constructor
  · intro h
    rcases x with ⟨_ | ⟨o', k⟩, _ | ⟨e', z⟩⟩ <;> simp [readSlot] at h
    split at h
    · rename_i hp
      obtain ⟨hc, hb⟩ := hp
      injection h with h1 h2
      subst h1 h2
      simp only [claimPasses, bodyPasses, beq_iff_eq] at hc hb
      rw [hc, hb]
      rfl
    · cases h
  · rintro rfl
    exact readSlot_writtenSlot o e

/-- Damage to the claim of a slot that was written whole leaves it INVALID without an ordinal (R135). -/
theorem readSlot_hurtClaim {flips : Byte} (h : flips ≠ 0) (o : Byte) (e : ArchEntry) :
    readSlot (hurtClaim flips (writtenSlot o e)) = .invalid none := by
  have hf := code_flipped (x := Config.claimCheck o) h
  simp [readSlot, hurtClaim, writtenSlot, claimPasses, makeClaim, claimOrd, hf]

/-- Damage to the body of a slot that was written whole leaves it INVALID with its ordinal (R135). -/
theorem readSlot_hurtBody {flips : Word} (h : flips ≠ 0) (o : Byte) (e : ArchEntry) :
    readSlot (hurtBody flips (writtenSlot o e)) = .invalid (some o) := by
  have hf := code_flipped (x := Config.bodyCode e) h
  simp [readSlot, hurtBody, writtenSlot, claimPasses, makeClaim, claimOrd, bodyPasses, hf]

/-- A write cut off leaves its slot INVALID, with the ordinal when the claim had been written (R137). -/
theorem readSlot_cut (c : Claim) :
    readSlot { claim := some c, body := none } = .invalid (if claimPasses c then some c.ord else none) := rfl

/-- An erasure cut off leaves a slot EMPTY, as it was, or INVALID (R139). -/
theorem cutSlot_outcomes (r : Nat) (x : ArchSlot) :
    readSlot (cutSlot r x) = .empty ∨ cutSlot r x = x ∨ ∃ o, readSlot (cutSlot r x) = .invalid o := by
  unfold cutSlot
  split
  · exact .inl rfl
  · exact .inr (.inl rfl)
  · cases hb : x.body <;> exact .inr (.inr ⟨none, by simp [readSlot, claimOrd]⟩)
  · cases hc : x.claim
    · exact .inl (by simp [readSlot])
    · exact .inr (.inr ⟨_, by simp [readSlot]; rfl⟩)

/-! ### Banks -/

@[simp] theorem readBank_erasedBank : readBank erasedBank = .erased := rfl

@[simp] theorem readBank_writtenBank (g : Word) (p : Profile) : readBank (writtenBank g p) = .valid g p := by
  simp [readBank, writtenBank]

/-- A bank reads VALID exactly when its commit was completed (R152). -/
theorem readBank_valid (x : Bank) (g : Word) (p : Profile) : readBank x = .valid g p ↔ x = writtenBank g p := by
  constructor
  · intro h
    rcases x with ⟨m, g', c, _ | q⟩ <;> cases m <;> simp [readBank] at h
    split at h
    · rename_i hc
      injection h with h1 h2
      subst h1 h2 hc
      rfl
    · cases h
  · rintro rfl
    exact readBank_writtenBank g p

/-- Damage to the check code of a VALID bank leaves it DAMAGED (R152). -/
theorem readBank_hurt {flips : Word} (h : flips ≠ 0) (g : Word) (p : Profile) :
    readBank { writtenBank g p with code := (writtenBank g p).code ^^^ flips } = .damaged := by
  have hf := code_flipped (x := Config.profileCode p) h
  simp [readBank, writtenBank, hf]

/-- A commit cut off leaves its bank ERASED or DAMAGED (R161). -/
theorem readBank_cut (m : Bool) (x : Bank) :
    readBank { x with marker := m, content := none } = if m then .damaged else .erased := by
  cases m <;> rfl

@[simp] theorem bankOf_setBank (b : BankId) (x : Bank) (p : ProfileStore) : bankOf b (setBank b x p) = x := by
  cases b <;> rfl

theorem bankOf_setBank_ne {b b' : BankId} (h : b' ≠ b) (x : Bank) (p : ProfileStore) :
    bankOf b' (setBank b x p) = bankOf b' p := by
  cases b <;> cases b' <;> simp [bankOf, setBank] at h ⊢

/-! ### The abort of a session -/

/-- A stopped commit leaves its bank ERASED or DAMAGED and the controller alone (R161). -/
theorem cutCommit_effect (b : BankId) (s : State) :
    ∃ (m : Bool) (n : Nat), cutCommit b s =
      (s.setFree n).setProf (setBank b { bankOf b s.prof with marker := m, content := none } s.prof) :=
  ⟨(drawBit s).1, _, rfl⟩

/-- A controller without a commit among its requests begins the oldest, and nothing else changes (R164). -/
theorem nvBegin_noCommit (s : State) : ∀ q : List NvOp, (∀ op ∈ q, isCommit op = false) →
    nvBegin (s.setNv { cur := none, queue := q }) = s.setNv (match q with
      | [] => { cur := none, queue := [] }
      | op :: rest => { cur := some (op, s.now), queue := rest }) := by
  intro q hq
  cases q with
  | nil => rfl
  | cons op rest =>
    cases op with
    | commit b g p => exact nomatch hq _ List.mem_cons_self
    | load => rfl
    | archWrite e => rfl
    | erase => rfl

theorem noCommit_filter (q : List NvOp) : ∀ op ∈ q.filter (fun op => !isCommit op), isCommit op = false := by
  intro op h
  simpa using (List.mem_filter.mp h).2

/-- The withdrawal of a session's commit: the controller without it, and its bank ERASED or DAMAGED if it had begun (R161). -/
theorem nvDropCommit_effect (s : State) :
    (nvDropCommit s).nv = withoutCommit s ∧
      (nvDropCommit s).prof = { s.prof with bankA := (nvDropCommit s).prof.bankA, bankB := (nvDropCommit s).prof.bankB } ∧
      ∀ b, (committing b s = false → bankOf b (nvDropCommit s).prof = bankOf b s.prof) ∧
        (committing b s = true → bankUnusable b (nvDropCommit s)) := by
  rcases hc : s.nv.cur with _ | ⟨op, k⟩
  · have e : nvDropCommit s = s.setNv { s.nv with queue := s.nv.queue.filter (fun op => !isCommit op) } := by
      simp [nvDropCommit, hc]
    rw [e]
    exact ⟨by simp [withoutCommit, committing, hc], rfl, fun b => ⟨fun _ => rfl, by simp [committing, hc]⟩⟩
  · by_cases hk : isCommit op = true
    · cases op with
      | commit b g p =>
        obtain ⟨m, n, hcut⟩ := cutCommit_effect b (s.setNv { s.nv with queue := s.nv.queue.filter (fun op => !isCommit op) })
        have e : nvDropCommit s = (s.setFree n |>.setProf
            (setBank b { bankOf b s.prof with marker := m, content := none } s.prof)).setNv (withoutCommit s) := by
          have hb : (committing .bankA s || committing .bankB s) = true := by cases b <;> simp [committing, hc]
          have h0 : nvDropCommit s = nvFinish (cutCommit b
              (s.setNv { s.nv with queue := s.nv.queue.filter (fun op => !isCommit op) })) := by
            simp [nvDropCommit, hc]
          rw [h0, hcut, withoutCommit, if_pos hb]
          exact nvBegin_noCommit _ _ (noCommit_filter _)
        rw [e]
        refine ⟨rfl, by cases b <;> rfl, fun b' => ⟨fun hb => ?_, fun hb => ?_⟩⟩
        · exact bankOf_setBank_ne (by simpa [committing, hc] using hb) _ _
        · obtain rfl : b' = b := by simpa [committing, hc] using hb
          simp only [bankUnusable, setNv_prof, setProf_prof, bankOf_setBank, readBank_cut]
          cases m <;> simp
      | load => cases hk
      | archWrite x => cases hk
      | erase => cases hk
    · have e : nvDropCommit s = s.setNv { s.nv with queue := s.nv.queue.filter (fun op => !isCommit op) } := by
        cases op <;> first | exact absurd rfl hk | simp [nvDropCommit, hc]
      have hn : ∀ b, committing b s = false := by
        intro b
        cases op <;> first | exact absurd rfl hk | simp [committing, hc]
      rw [e]
      exact ⟨by simp [withoutCommit, hn], rfl, fun b => ⟨fun _ => rfl, by simp [hn]⟩⟩

/-- What an abort does to the session, its commit and the controller (R159, R161). -/
theorem abortSession_effect (s : State) :
    sessionAborted s.prof s (abortSession s) ∧ (abortSession s).nv = nvAfterAbort s := by
  unfold abortSession
  cases ho : sessionOpen s
  · exact ⟨⟨fun _ => rfl, fun h => nomatch h.symm.trans ho⟩, by simp [nvAfterAbort, ho]⟩
  · rw [if_pos rfl]
    by_cases hb : s.prof.commit = .busy
    · have e : abandonCommit (writeRec (.session .abort) (closeSession s)) =
          nvDropCommit ((writeRec (.session .abort) (closeSession s)).setProf
            { s.prof with session := .closed, commit := .abandoned }) := by
        have hc : (writeRec (.session .abort) (closeSession s)).prof.commit = .busy := hb
        unfold abandonCommit
        rw [hc]
        rfl
      obtain ⟨h1, h2, h3⟩ := nvDropCommit_effect ((writeRec (.session .abort) (closeSession s)).setProf
            { s.prof with session := .closed, commit := .abandoned })
      rw [e]
      refine ⟨⟨fun h => (nomatch h.symm.trans ho), fun _ => ⟨?_, fun b => ⟨fun h => ?_, fun _ h => ?_⟩⟩⟩, ?_⟩
      · rw [if_pos hb]
        exact h2
      · exact (h3 b).1 (h.resolve_left (· hb))
      · exact (h3 b).2 h
      · rw [h1, nvAfterAbort, if_pos ⟨ho, hb⟩]
        rfl
    · have e : abandonCommit (writeRec (.session .abort) (closeSession s)) = writeRec (.session .abort) (closeSession s) := by
        have : (writeRec (.session .abort) (closeSession s)).prof = { s.prof with session := .closed } := rfl
        unfold abandonCommit
        rw [this]
        cases hc : s.prof.commit <;> first | exact absurd hc hb | rfl
      rw [e]
      refine ⟨⟨fun h => (nomatch h.symm.trans ho), fun _ => ⟨?_, fun b => ⟨fun _ => ?_, fun h => absurd h hb⟩⟩⟩, ?_⟩
      · rw [if_neg hb]; rfl
      · cases b <;> rfl
      · rw [nvAfterAbort, if_neg (fun h => hb h.2)]
        rfl

end Sys2Proof.Machine
end

