-- ==== Sys2Proof/Laws/PerInstr.lean ====
section
/-!
SUPPORT. One lemma per command: whether the operands of a row are well-formed does not depend on the tag or on the timing of
the frame that carries it (R6 checks them separately).
-/

namespace Sys2Proof.Laws.HeadCarried

set_option Elab.async false

/-- The row with its frame's head replaced; a row that names its bytes or carries no frame is kept. -/
def withHead (h : FrameHead) (i : Instr) : Instr :=
  match i with
  | .rejTag _ code arg => .rejTag h code arg
  | .retransmission _ code arg => .retransmission h code arg
  | .rejCommand _ code arg => .rejCommand h code arg
  | .nop _ arg => .nop h arg
  | .writeReg _ addr data => .writeReg h addr data
  | .archSelWrite _ data => .archSelWrite h data
  | .tickLoRead _ => .tickLoRead h
  | .tickHiRead _ => .tickHiRead h
  | .hbCaptRead _ ch => .hbCaptRead h ch
  | .linkStatRead _ => .linkStatRead h
  | .linkCountRead _ r => .linkCountRead h r
  | .hportErrcntRead _ => .hportErrcntRead h
  | .clearSource _ arg => .clearSource h arg
  | .inject _ arg => .inject h arg
  | .raiseSw _ arg => .raiseSw h arg
  | .lowerSw _ arg => .lowerSw h arg
  | .purgeNode _ arg => .purgeNode h arg
  | .ackSafe _ arg => .ackSafe h arg
  | .releaseSafe _ arg => .releaseSafe h arg
  | .service _ arg => .service h arg
  | .popJournal _ arg => .popJournal h arg
  | .peekJournal _ arg => .peekJournal h arg
  | .openSession _ arg => .openSession h arg
  | .closeApply _ arg => .closeApply h arg
  | .closeDiscard _ arg => .closeDiscard h arg
  | .commitProfile _ arg => .commitProfile h arg
  | .resetCounts _ arg => .resetCounts h arg
  | .clearArchive _ arg => .clearArchive h arg
  | .runSelftest _ arg => .runSelftest h arg
  | .enterStandby _ arg => .enterStandby h arg
  | .wake _ arg => .wake h arg
  | .softReset _ arg => .softReset h arg
  | i => i

/-- Replacing the head keeps well-formedness, and the last replacement counts. -/
def Statement (i : Instr) : Prop :=
  ∀ h h' : FrameHead, wellFormed (withHead h i) = wellFormed i ∧ withHead h (withHead h' i) = withHead h i

theorem tickBatch (inp : TickInputs) : Statement (.tickBatch inp) := fun _ _ => ⟨rfl, rfl⟩
theorem por : Statement .por := fun _ _ => ⟨rfl, rfl⟩
theorem pinReset (lowNs : Nat) : Statement (.pinReset lowNs) := fun _ _ => ⟨rfl, rfl⟩
theorem resetEnd : Statement .resetEnd := fun _ _ => ⟨rfl, rfl⟩
theorem oscillatorStart : Statement .oscillatorStart := fun _ _ => ⟨rfl, rfl⟩
theorem rejLength (start : FrameStart) (bits : List Bool) : Statement (.rejLength start bits) := fun _ _ => ⟨rfl, rfl⟩
theorem rejCrc (start : FrameStart) (f : RawFrame) : Statement (.rejCrc start f) := fun _ _ => ⟨rfl, rfl⟩
theorem rejFormat (start : FrameStart) (f : RawFrame) : Statement (.rejFormat start f) := fun _ _ => ⟨rfl, rfl⟩
theorem rejTag (h : FrameHead) (code : Byte) (arg : BitVec 24) : Statement (.rejTag h code arg) := fun _ _ => ⟨rfl, rfl⟩
theorem retransmission (h : FrameHead) (code : Byte) (arg : BitVec 24) : Statement (.retransmission h code arg) := fun _ _ => ⟨rfl, rfl⟩
theorem rejCommand (h : FrameHead) (code : Byte) (arg : BitVec 24) : Statement (.rejCommand h code arg) := fun _ _ => ⟨rfl, rfl⟩
theorem nop (h : FrameHead) (arg : BitVec 24) : Statement (.nop h arg) := fun _ _ => ⟨rfl, rfl⟩
theorem writeReg (h : FrameHead) (addr : Byte) (data : Word) : Statement (.writeReg h addr data) := fun _ _ => ⟨rfl, rfl⟩
theorem archSelWrite (h : FrameHead) (data : Word) : Statement (.archSelWrite h data) := fun _ _ => ⟨rfl, rfl⟩
theorem tickLoRead (h : FrameHead) : Statement (.tickLoRead h) := fun _ _ => ⟨rfl, rfl⟩
theorem tickHiRead (h : FrameHead) : Statement (.tickHiRead h) := fun _ _ => ⟨rfl, rfl⟩
theorem hbCaptRead (h : FrameHead) (ch : Fin 4) : Statement (.hbCaptRead h ch) := fun _ _ => ⟨rfl, rfl⟩
theorem linkStatRead (h : FrameHead) : Statement (.linkStatRead h) := fun _ _ => ⟨rfl, rfl⟩
theorem linkCountRead (h : FrameHead) (r : LinkCountReg) : Statement (.linkCountRead h r) := fun _ _ => ⟨rfl, rfl⟩
theorem hportErrcntRead (h : FrameHead) : Statement (.hportErrcntRead h) := fun _ _ => ⟨rfl, rfl⟩
theorem clearSource (h : FrameHead) (arg : BitVec 24) : Statement (.clearSource h arg) := fun _ _ => ⟨rfl, rfl⟩
theorem inject (h : FrameHead) (arg : BitVec 24) : Statement (.inject h arg) := fun _ _ => ⟨rfl, rfl⟩
theorem raiseSw (h : FrameHead) (arg : BitVec 24) : Statement (.raiseSw h arg) := fun _ _ => ⟨rfl, rfl⟩
theorem lowerSw (h : FrameHead) (arg : BitVec 24) : Statement (.lowerSw h arg) := fun _ _ => ⟨rfl, rfl⟩
theorem purgeNode (h : FrameHead) (arg : BitVec 24) : Statement (.purgeNode h arg) := fun _ _ => ⟨rfl, rfl⟩
theorem ackSafe (h : FrameHead) (arg : BitVec 24) : Statement (.ackSafe h arg) := fun _ _ => ⟨rfl, rfl⟩
theorem releaseSafe (h : FrameHead) (arg : BitVec 24) : Statement (.releaseSafe h arg) := fun _ _ => ⟨rfl, rfl⟩
theorem service (h : FrameHead) (arg : BitVec 24) : Statement (.service h arg) := fun _ _ => ⟨rfl, rfl⟩
theorem popJournal (h : FrameHead) (arg : BitVec 24) : Statement (.popJournal h arg) := fun _ _ => ⟨rfl, rfl⟩
theorem peekJournal (h : FrameHead) (arg : BitVec 24) : Statement (.peekJournal h arg) := fun _ _ => ⟨rfl, rfl⟩
theorem openSession (h : FrameHead) (arg : BitVec 24) : Statement (.openSession h arg) := fun _ _ => ⟨rfl, rfl⟩
theorem closeApply (h : FrameHead) (arg : BitVec 24) : Statement (.closeApply h arg) := fun _ _ => ⟨rfl, rfl⟩
theorem closeDiscard (h : FrameHead) (arg : BitVec 24) : Statement (.closeDiscard h arg) := fun _ _ => ⟨rfl, rfl⟩
theorem commitProfile (h : FrameHead) (arg : BitVec 24) : Statement (.commitProfile h arg) := fun _ _ => ⟨rfl, rfl⟩
theorem resetCounts (h : FrameHead) (arg : BitVec 24) : Statement (.resetCounts h arg) := fun _ _ => ⟨rfl, rfl⟩
theorem clearArchive (h : FrameHead) (arg : BitVec 24) : Statement (.clearArchive h arg) := fun _ _ => ⟨rfl, rfl⟩
theorem runSelftest (h : FrameHead) (arg : BitVec 24) : Statement (.runSelftest h arg) := fun _ _ => ⟨rfl, rfl⟩
theorem enterStandby (h : FrameHead) (arg : BitVec 24) : Statement (.enterStandby h arg) := fun _ _ => ⟨rfl, rfl⟩
theorem wake (h : FrameHead) (arg : BitVec 24) : Statement (.wake h arg) := fun _ _ => ⟨rfl, rfl⟩
theorem softReset (h : FrameHead) (arg : BitVec 24) : Statement (.softReset h arg) := fun _ _ => ⟨rfl, rfl⟩
theorem qualification (n : Fin 16) : Statement (.qualification n) := fun _ _ => ⟨rfl, rfl⟩
theorem lineRelease (n : Fin 16) : Statement (.lineRelease n) := fun _ _ => ⟨rfl, rfl⟩
theorem heartbeatLate (n : Fin 4) : Statement (.heartbeatLate n) := fun _ _ => ⟨rfl, rfl⟩
theorem silent (n : Fin 8) : Statement (.silent n) := fun _ _ => ⟨rfl, rfl⟩
theorem beaconTimer : Statement .beaconTimer := fun _ _ => ⟨rfl, rfl⟩
theorem windowEvaluation : Statement .windowEvaluation := fun _ _ => ⟨rfl, rfl⟩
theorem missingReference : Statement .missingReference := fun _ _ => ⟨rfl, rfl⟩
theorem settleAllowanceEnd (i : Fin 8) : Statement (.settleAllowanceEnd i) := fun _ _ => ⟨rfl, rfl⟩
theorem mismatchQualified (i : Fin 8) : Statement (.mismatchQualified i) := fun _ _ => ⟨rfl, rfl⟩
theorem mismatchWithdrawn (i : Fin 8) : Statement (.mismatchWithdrawn i) := fun _ _ => ⟨rfl, rfl⟩
theorem exchange : Statement .exchange := fun _ _ => ⟨rfl, rfl⟩
theorem expiry : Statement .expiry := fun _ _ => ⟨rfl, rfl⟩
theorem ackDeadlineExpiry : Statement .ackDeadlineExpiry := fun _ _ => ⟨rfl, rfl⟩
theorem pulseStart : Statement .pulseStart := fun _ _ => ⟨rfl, rfl⟩
theorem pulseEnd : Statement .pulseEnd := fun _ _ => ⟨rfl, rfl⟩
theorem cut : Statement .cut := fun _ _ => ⟨rfl, rfl⟩
theorem dwellEnd : Statement .dwellEnd := fun _ _ => ⟨rfl, rfl⟩
theorem epMinEnd : Statement .epMinEnd := fun _ _ => ⟨rfl, rfl⟩
theorem automaticRelease : Statement .automaticRelease := fun _ _ => ⟨rfl, rfl⟩
theorem closedPhaseEnd : Statement .closedPhaseEnd := fun _ _ => ⟨rfl, rfl⟩
theorem watchdogLate : Statement .watchdogLate := fun _ _ => ⟨rfl, rfl⟩
theorem selftestStepCompletion (compFault : BitVec 8) (refPeriods : Nat) : Statement (.selftestStepCompletion compFault refPeriods) := fun _ _ => ⟨rfl, rfl⟩
theorem profileLoadCompletion : Statement .profileLoadCompletion := fun _ _ => ⟨rfl, rfl⟩
theorem nvOperationBegin : Statement .nvOperationBegin := fun _ _ => ⟨rfl, rfl⟩
theorem archiveWriteCompletion : Statement .archiveWriteCompletion := fun _ _ => ⟨rfl, rfl⟩
theorem archiveErasureCompletion : Statement .archiveErasureCompletion := fun _ _ => ⟨rfl, rfl⟩
theorem commitCompletion : Statement .commitCompletion := fun _ _ => ⟨rfl, rfl⟩
theorem unlockWindowExpiry : Statement .unlockWindowExpiry := fun _ _ => ⟨rfl, rfl⟩
theorem sessionLimitExpiry : Statement .sessionLimitExpiry := fun _ _ => ⟨rfl, rfl⟩
theorem wakeRequest : Statement .wakeRequest := fun _ _ => ⟨rfl, rfl⟩
theorem wakingEnd : Statement .wakingEnd := fun _ _ => ⟨rfl, rfl⟩
theorem peerEventMessage (b0 : LrxLevels) (b1 : LrxLevels) (b2 : LrxLevels) (b3 : LrxLevels) : Statement (.peerEventMessage b0 b1 b2 b3) := fun _ _ => ⟨rfl, rfl⟩
theorem framingError : Statement .framingError := fun _ _ => ⟨rfl, rfl⟩
theorem truncated : Statement .truncated := fun _ _ => ⟨rfl, rfl⟩
theorem earlyRun : Statement .earlyRun := fun _ _ => ⟨rfl, rfl⟩
theorem receiverReady : Statement .receiverReady := fun _ _ => ⟨rfl, rfl⟩
theorem intake : Statement .intake := fun _ _ => ⟨rfl, rfl⟩
theorem startBitWake : Statement .startBitWake := fun _ _ => ⟨rfl, rfl⟩
theorem messageIntoFlight : Statement .messageIntoFlight := fun _ _ => ⟨rfl, rfl⟩
theorem messageLeavesFlight : Statement .messageLeavesFlight := fun _ _ => ⟨rfl, rfl⟩
theorem mainOscillatorStop : Statement .mainOscillatorStop := fun _ _ => ⟨rfl, rfl⟩

end Sys2Proof.Laws.HeadCarried
end

