-- ==== Sys2Proof/Tests/Slice0.lean ====
section
/-!
SUPPORT. Tests of one step each, with results from the spec's worked examples; the smoke tests of the well-formedness checks;
and, for every statement of the obligations that has hypotheses, a state and operands that meet them.
-/

namespace Sys2Proof.Tests

set_option Elab.async false

open Sys2Proof.Machine

/-! ### Small states -/

/-- Head of a frame with this tag, begun in time. -/
def tagged (t : BitVec 3) : FrameHead := { tag := t, start := .onTime }

/-- Batches run, at this tick, in this supervisor state, with the Default Profile. -/
def at_ (x : SupState) (tick : Tick) : State :=
  { State.reset with
    clk := { State.reset.clk with phase := .running, initStep := .done, tick := tick }
    sup := { resetSup with state := x } }

/-- The state with another running profile. -/
def withProfile (p : Profile) (s : State) : State := s.setProf { s.prof with running := p }

/-- The state with an open session whose staging copy is the Default Profile. -/
def inSession (s : State) : State := s.setProf { s.prof with session := .opn 50000 defaultProfile }

/-- The state with the supervisor's state, and its ack request and level. -/
def withAck (r : Option AckReq) (level : BitVec 2) (s : State) : State := s.setAck { req := r, level := level }

/-- The state a command leads to. -/
def after (i : Instr) (s : State) : State :=
  match exec i s with
  | .next t => t
  | .fault _ => s
  | .refused _ => s

/-- The result code and data that a command leaves in the response slot. -/
def result (i : Instr) (s : State) : Res × BitVec 24 :=
  ((after i s).port.slot.res, (after i s).port.slot.data)

/-! ### Well-formedness refuses an ill-formed term by each of its checks -/

/-- Frames named by what is wrong with them. -/
theorem test_wellFormed_frames :
    wellFormed (.rejLength .onTime []) = false ∧
    wellFormed (.rejLength .onTime (List.replicate 48 true)) = false ∧
    wellFormed (.rejLength .onTime (List.replicate 47 true)) = true ∧
    wellFormed (.rejCrc .onTime (requestFrame 0 0 0)) = false ∧
    wellFormed (.rejCrc .onTime { requestFrame 0 0 0 with b5 := 0 }) = true ∧
    wellFormed (.rejFormat .onTime (requestFrame 0 0 0)) = false ∧
    wellFormed (.rejFormat .onTime { requestFrame 0 0 0 with b1 := 1 }) = false ∧
    wellFormed (.peerEventMessage (byteFrame 0x65 true) (byteFrame 7 true) (byteFrame 0x12 false) (byteFrame 0x0D true)) = false ∧
    wellFormed (.peerEventMessage (byteFrame 0x65 true) (byteFrame 7 true) [] []) = false ∧
    wellFormed (.peerEventMessage (byteFrame 0x65 true) (byteFrame 7 true) (byteFrame 0x12 true) (byteFrame 0x0D true)) = true ∧
    wellFormed (.rejCommand (tagged 0) 0x4F 0) = false ∧ wellFormed (.rejCommand (tagged 0) 0x4E 0) = true := by
  decide +kernel

/-- Writes: a read-only address, an address outside the map, ARCH_SEL, values out of range. -/
theorem test_wellFormed_writes :
    wellFormed (.writeReg (tagged 0) 0x00 0) = false ∧ wellFormed (.writeReg (tagged 0) 0x9F 0) = false ∧
    wellFormed (.writeReg (tagged 0) 0x5A 0) = false ∧ wellFormed (.writeReg (tagged 0) 0x10 56) = false ∧
    wellFormed (.writeReg (tagged 0) 0x81 0x8000) = false ∧ wellFormed (.writeReg (tagged 0) 0x10 55) = true ∧
    wellFormed (.archSelWrite (tagged 0) 4) = false ∧ wellFormed (.archSelWrite (tagged 0) 3) = true := by
  decide +kernel

/-- Arguments out of range (R16). -/
theorem test_wellFormed_arguments :
    wellFormed (.nop (tagged 0) 1) = false ∧ wellFormed (.clearSource (tagged 0) 56) = false ∧
    wellFormed (.inject (tagged 0) 56) = false ∧ wellFormed (.raiseSw (tagged 0) 4) = false ∧
    wellFormed (.lowerSw (tagged 0) 4) = false ∧ wellFormed (.purgeNode (tagged 0) 8) = false ∧
    wellFormed (.ackSafe (tagged 0) 256) = false ∧ wellFormed (.releaseSafe (tagged 0) 1) = false ∧
    wellFormed (.service (tagged 0) 256) = false ∧ wellFormed (.popJournal (tagged 0) 1) = false ∧
    wellFormed (.peekJournal (tagged 0) 1) = false ∧ wellFormed (.openSession (tagged 0) 256) = false ∧
    wellFormed (.closeApply (tagged 0) 1) = false ∧ wellFormed (.closeDiscard (tagged 0) 1) = false ∧
    wellFormed (.commitProfile (tagged 0) 1) = false ∧ wellFormed (.resetCounts (tagged 0) 1) = false ∧
    wellFormed (.clearArchive (tagged 0) 1) = false ∧ wellFormed (.runSelftest (tagged 0) 1) = false ∧
    wellFormed (.enterStandby (tagged 0) 1) = false ∧ wellFormed (.wake (tagged 0) 1) = false ∧
    wellFormed (.softReset (tagged 0) 0x5B) = false := by
  decide +kernel

/-- The table gives no row bits, so no word spells a command. -/
theorem test_no_word_spells_a_command : decodeTableWord 48 0xF00000000000 = none := by decide

/-! ### Check codes (the worked examples of chapters 1 and 3) -/

/-- READ_REG DEV_ID with tag 1 has check code 0xB1, and NOP with tag 0 has 0xF0. -/
theorem test_request_check_code :
    requestFrame 0x01 1 0 = ⟨0x01, 0x20, 0x00, 0x00, 0x00, 0xB1⟩ ∧
      requestFrame 0x00 0 0 = ⟨0x00, 0x00, 0x00, 0x00, 0x00, 0xF0⟩ := by
  decide +kernel

/-- Node 3, event code 7, detail 0x12, sequence 5: 65 07 12 0D, with the first byte on the wire as the manual shows it. -/
theorem test_message_check_code :
    pemByte0 3 0 5 = 0x65 ∧ pemCrc 0x65 0x07 0x12 = 0x0D ∧
      linkBits 0x65 = [false, true, false, true, false, false, true, true, false, true] := by
  decide +kernel

/-- The bits of 0x65 on LRX as the manual shows them are that byte, and with a low stop bit a framing error (R40). -/
theorem test_byte_on_the_line :
    linkByte [false, true, false, true, false, false, true, true, false, true] = some 0x65 ∧
      linkByte [false, true, false, true, false, false, true, true, false, false] = none := by
  decide +kernel

/-! ### The short exchange (section 1.7) -/

/-- The port after frame 1: SYNCHRONISED on tag 0 with OK. -/
def exchange1 : State :=
  (at_ .normal 100).setPort { resetPort with
    synced := true, lastTag := 0, stored := some ⟨0, .ok, 0⟩, slot := ⟨0x20, 0, .ok, 0⟩ }

/-- Frame 1: NO_PRIOR is shown, and the NOP answered OK. -/
theorem test_exchange_frame1 :
    (after (.nop (tagged 0) 0) (at_ .normal 100)).port.sdo = slotBits noPriorSlot ∧
      result (.nop (tagged 0) 0) (at_ .normal 100) = (.ok, 0) ∧
      (slotBytes noPriorSlot).take 5 = [0x00, 0x01, 0, 0, 0] := by
  decide +kernel

/-- Frame 2: READ_REG DEV_ID answers 0x004281. -/
theorem test_exchange_frame2 : result (.rejCommand (tagged 1) 0x01 0) exchange1 = (.ok, 0x004281) := by
  decide +kernel

/-- Frame 3: a damaged check code is counted, with the tag as received in the answer and the last tag kept. -/
theorem test_exchange_frame3 :
    let t := after (.rejCrc .onTime { requestFrame 0x02 2 0x81A003 with b5 := 0 }) exchange1
    t.port.consec = 1 ∧ t.port.errcnt = 1 ∧ t.port.lastTag = 0 ∧ (slotBytes t.port.slot)[1]? = some 0x42 := by
  decide +kernel

/-- Frame 4: the write without a session is rejected with REJ_ACCESS, as the last rejection code 8. -/
theorem test_exchange_frame4 :
    let t := after (.writeReg (tagged 1) 0x81 0xA003) exchange1
    t.port.slot.res = .rejAccess ∧ t.port.lastTag = 1 ∧ t.port.stored = some ⟨1, .rejAccess, 0⟩ ∧
      resCode .rejAccess = 8 := by
  decide +kernel

/-- Frame 5: a retransmission begun too early shows zeros and is answered with the stored result. -/
theorem test_exchange_frame5 :
    let t := after (.retransmission { tag := 0, start := .early } 0x02 0x81A003) exchange1
    t.port.sdo = List.replicate 48 false ∧ t.port.slot.res = .ok ∧ t.port.lastTag = 0 := by
  decide +kernel

/-- A tag out of sequence is answered with the last accepted tag. -/
theorem test_wrong_tag : result (.rejTag (tagged 3) 0 0) (exchange1.setPort { exchange1.port with lastTag := 6 }) =
    (.rejTag, 6) := by
  decide +kernel

/-! ### Lines, channels and the link (the worked examples of chapters 2 and 3) -/

/-- Line FL5 of the example: ACTIVE_LOW, FILT 2, in a mode. -/
def fl5 (m : FlMode) : FlCfg := { activeHigh := false, mode := m, filt := 2, wake := false }

/-- Ticks 100 to 104 of FL5 in both modes, one sample each. -/
theorem test_fl5_samples :
    flStep (fl5 .level) false resetFl = { resetFl with state := .qualifying, count := 1 } ∧
    (flStep (fl5 .level) false { resetFl with state := .qualifying, count := 2 }).state = .asserted ∧
    (flStep (fl5 .pulse) false { resetFl with state := .qualifying, count := 2 }).state = .spent ∧
    flCond (flStep (fl5 .pulse) false { resetFl with state := .qualifying, count := 2 }) = true ∧
    flCond (flStep (fl5 .pulse) false { resetFl with state := .spent, hold := .seen }) = false ∧
    (flStep (fl5 .level) true { resetFl with state := .asserted }).state = .releasing ∧
    (flStep (fl5 .pulse) true { resetFl with state := .spent }).state = .inactive := by
  decide +kernel

/-- The five-millisecond partner: EARLY at 37 with detail 0x25, LATE at 60 with detail 0xBC, a good edge at 50. -/
theorem test_heartbeat_details :
    let c : HbCfg := { enable := true, edge := .rising, min := 40, max := 60 }
    let u : HbUnit := { resetHb with state := .running, ref := some false }
    (hbStep c true { u with counter := 36 }).detail = 0x25 ∧ (hbStep c true { u with counter := 36 }).viol = .early ∧
    (hbStep c false { u with counter := 59 }).detail = 0xBC ∧ (hbStep c false { u with counter := 59 }).viol = .late ∧
    (hbStep c true { u with counter := 49 }).capt = 50 ∧ (hbStep c true { u with counter := 49 }).state = .running := by
  decide +kernel

/-- The link of the example: OWN_NODE 0, NODE_MASK 0x26, LINK_TIMEOUT 20. -/
def exampleLink : LinkCfg :=
  { enable := true, wake := false, ownNode := 0, nodeMask := 0x26, beaconPeriod := 10, timeout := 20, errLimit := 8 }

/-- The Default Profile with the link of the example. -/
def linkProfile : Profile := { defaultProfile with link := exampleLink }

/-- After tick 60: node 2 holds code 4. -/
def linkAfter60 : State :=
  withProfile linkProfile ((at_ .normal 61).setLink
    { resetLink with
      rx := .ready
      inbox := [⟨2, .event, 6, 4, 0x31⟩]
      nodes := vset resetLink.nodes 2 ⟨some 6, .alive, 1⟩
      sets := vset resetLink.sets 4 4
      last := vset resetLink.last 4 (some ⟨2, 0x31⟩) })

/-- Tick 61: a duplicate is counted and changes no set. -/
theorem test_link_duplicate :
    let t := after .intake linkAfter60
    t.link.dup = 1 ∧ t.link.gap = 0 ∧ vget t.link.sets 4 = 4 ∧ (vget t.link.nodes 2).silence = 0 ∧ t.link.inbox = [] := by
  decide +kernel

/-- A message of which LRX has shown its first byte holds an announcement back (R52), and its second byte follows; a line held low is
one framing error (R40). -/
theorem test_link_assembling :
    let s := linkAfter60.setLink { linkAfter60.link with pendingTx := some .normal }
    let t := after (.peerEventMessage (byteFrame 0x65 true) [false] [] []) s
    t.link.rx = .assembling [0x65] [false] ∧ (after .messageIntoFlight t).link.flight = none ∧
      (after (.peerEventMessage (List.replicate 40 false) [] [] []) s).link.framing = 1 := by
  decide +kernel

/-- In STANDBY a busy line holds the announcement back until LRX has been idle for 2 byte-times (R57). -/
theorem test_standby_waits_for_idle :
    let s := (at_ .standby 100).setLink { resetLink with rx := .off true, pendingTx := some .standby }
    let busy := after (.peerEventMessage [false] [] [] []) s
    (after .messageIntoFlight busy).link.flight = none ∧
      ((after .messageIntoFlight (after .receiverReady busy)).link.flight.map (fun f => f.b2)) = some 5 := by
  decide +kernel

/-- PURGE_NODE of a SILENT node 2 in set 4 answers mask 0x0010. -/
theorem test_purge_mask :
    result (.purgeNode (tagged 0) 2)
      (linkAfter60.setLink { linkAfter60.link with
        inbox := [], nodes := vset linkAfter60.link.nodes 2 ⟨some 6, .silent, 2000⟩ }) = (.ok, 0x0010) := by
  decide +kernel

/-! ### The Supervisor (the worked examples of chapters 4 to 7) -/

/-- Plan P2 of the unanswered alarm. -/
def alarmPlan : Plan :=
  { ssoMask := 0x3, epFault := true, hrst := true, hrstDelay := 0, hrstPulse := 10, pwrCut := false, pwrDelay := 0,
    dwell := 5, ack := true, autoRelease := false }

/-- Tick 2050 of the example: S10's entry is due. -/
def alarmDue : State :=
  withProfile { defaultProfile with plans := vset defaultProfile.plans 2 alarmPlan }
    ((at_ .alert 2050).setSup { resetSup with
      state := .alert, episode := 8, first := some 10, alarms := [⟨10, 2050, 2⟩] })

/-- The expiry enters SAFE with P2: dwell to 2550, the pulse to start now, the request waiting on it. -/
theorem test_alarm_expires :
    let t := after .expiry alarmDue
    t.sup.state = .safe ∧ t.sup.dwell = some 2550 ∧ t.sup.hostReset = .delaying 2050 100 ∧
      t.sup.episode = 8 ∧ t.ack.req.map (·.deadline) = some none ∧ t.sup.alarms = [] := by
  decide +kernel

/-- Removing the last entry before it is due returns to NORMAL. -/
theorem test_clear_ends_alert :
    (after (.clearSource (tagged 0) 10)
      (alarmDue.setSrc (vset alarmDue.src 10 { resetSrc with state := .residual }))).sup.state = .normal := by
  decide +kernel

/-- The ladder's plan P7 and settings: ESC_CEILING 3, ACK_LIMIT 20. -/
def ladderProfile : Profile := { defaultProfile with sup := { ackLimit := 20, escCeiling := 3 } }

/-- SAFE on the ladder, with a request and a level, the next journal record having this SEQ. -/
def onLadder (tick : Tick) (r : AckReq) (level : BitVec 2) (seq : Word) : State :=
  withProfile ladderProfile (((withAck (some r) level (at_ .safe tick))).setJrn { resetJrn with seq := seq })

/-- Tick 10600: the second bad token climbs to level 1 with token 0x30, waiting for the pulse. -/
theorem test_ladder_level1 :
    let s := onLadder 10600 ⟨0x23, 10000, some 12000, true⟩ 0 0x130
    let t := after (.ackSafe (tagged 0) 0x32) s
    t.ack = { req := some ⟨0x30, 10600, none, false⟩, level := 1 } ∧ t.sup.hostReset = .delaying 10600 100 ∧
      t.port.slot.res = .badToken := by
  decide +kernel

/-- Tick 12701: the deadline expires; level 2 pulses to 12801 with token 0x31. -/
theorem test_ladder_level2 :
    let t := after .ackDeadlineExpiry (onLadder 12701 ⟨0x30, 10600, some 12701, false⟩ 1 0x131)
    t.ack = { req := some ⟨0x31, 12701, none, false⟩, level := 2 } ∧ t.sup.hostReset = .pulsing 12801 := by
  decide +kernel

/-- Tick 14801: level 3 is LOCKDOWN, which sets the sticky flag. -/
theorem test_ladder_level3 :
    let t := after .ackDeadlineExpiry (onLadder 14801 ⟨0x31, 12701, some 14801, false⟩ 2 0x132)
    t.sup.state = .lockdown ∧ t.ack = { req := none, level := 3 } ∧ t.ret.sticky = true := by
  decide +kernel

/-- The watchdog of the host that slips. -/
def slipCfg : WdCfg := { enable := true, closed := 20, opn := 10, initial := 50, limit := 2, mask := 0x5A }

/-- A state of that watchdog at a tick. -/
def slip (tick : Tick) (w : Watchdog) : State :=
  (withProfile { defaultProfile with wd := slipCfg } (at_ .normal tick)).setWd w

/-- FIRST after 1000, EARLY after 1100, GOOD after 1350, WRONG after 1600. -/
theorem test_watchdog_services :
    (after (.service (tagged 0) 0x5B) (slip 1000 ⟨.initial 5400, 0x01, 0, .none⟩)).wd = ⟨.closed 1200, 0x02, 0, .none⟩ ∧
    (after (.service (tagged 0) 0x58) (slip 1100 ⟨.closed 1200, 0x02, 0, .none⟩)).wd = ⟨.closed 1300, 0x04, 1, .early⟩ ∧
    (after (.service (tagged 0) 0x5E) (slip 1350 ⟨.opn 1400, 0x04, 1, .early⟩)).wd = ⟨.closed 1550, 0x08, 0, .early⟩ ∧
    (after (.service (tagged 0) 0x00) (slip 1600 ⟨.opn 1650, 0x08, 0, .early⟩)).wd = ⟨.closed 1800, 0x10, 1, .wrong⟩ := by
  decide +kernel

/-- LATE in batch 1900: CLOSED to 2100, challenge 0x20, two violations, detail 0x32 with the condition of S46. -/
theorem test_watchdog_late :
    let t := after .watchdogLate (slip 1900 ⟨.opn 1900, 0x10, 1, .wrong⟩)
    t.wd = ⟨.closed 2100, 0x20, 2, .late⟩ ∧ wdDetail t.wd = 0x32 ∧ wdCond slipCfg t.wd = true := by
  decide +kernel

/-! ### Journal, store and outputs (the worked examples of chapters 8, 9, 10 and 12) -/

/-- The full journal of the example: SEQ 100 to 131, of which 105 and 120 are pinned. -/
def fullJournal (lost : Byte) : Journal :=
  { recs := (List.range 32).map (fun k =>
      { seq := BitVec.ofNat 16 (100 + k), tick := 0, episode := 0
        body := if k = 5 then .state .normal .safe else if k = 20 then .escalate 1 else .ack })
    seq := 132, lost := lost, displaced := 0, buf := none }

/-- A journal's policy in a state. -/
def underPolicy (p : JrnPolicy) (j : Journal) : State :=
  (withProfile { defaultProfile with jrn := { policy := p, attnLevel := 1 } } (at_ .normal 0)).setJrn j

/-- SEQ 132 is lost under KEEP_OLDEST, and displaces SEQ 100 under KEEP_NEWEST. -/
theorem test_journal_overflow :
    (writeRec .ack (underPolicy .keepOldest (fullJournal 0))).jrn = { fullJournal 0 with seq := 133, lost := 1 } ∧
    (writeRec .ack (underPolicy .keepNewest (fullJournal 0))).jrn.recs.map (·.seq) =
      (List.range 32).map (fun k => BitVec.ofNat 16 (101 + k)) ∧
    (writeRec .ack (underPolicy .keepNewest (fullJournal 0))).jrn.displaced = 1 := by
  decide +kernel

/-- POP_JOURNAL under KEEP_OLDEST with three lost records: SEQ 100, and the marker fills the journal again. -/
theorem test_pop_appends_marker :
    let t := after (.popJournal (tagged 0) 0) (underPolicy .keepOldest { fullJournal 3 with seq := 135 })
    t.jrn.recs.length = 32 ∧ t.jrn.lost = 0 ∧ t.jrn.recs.getLast?.map (fun r => (r.seq, r.body)) = some (135, .lost 3) ∧
      t.port.slot.data = argOf 32 0 100 := by
  decide +kernel

/-- The device that loaded bank B with generation 7. -/
def loadedB : State :=
  (inSession (at_ .normal 1000)).setProf
    { (inSession (at_ .normal 1000)).prof with
      curBank := some .bankB, gen := 7, bankA := writtenBank 6 defaultProfile,
      bankB := writtenBank 7 defaultProfile }

/-- COMMIT_PROFILE targets bank A with generation 8, and the bank's marker is gone at once. -/
theorem test_commit_targets_other_bank :
    let t := after (.commitProfile (tagged 0) 0) loadedB
    t.port.slot.data = argOf 0 0 8 ∧ t.prof.commit = .busy ∧ t.prof.bankA.marker = false ∧
      t.prof.bankB.marker = true ∧ t.prof.curBank = some .bankB := by
  decide +kernel

/-- The value 0xA131 of EDT_W0: NOTICE, AUTO, no notification, plan 1, priority 3, PROMOTE_AT 1. -/
theorem test_edt_w0 :
    let d : Desc := writeEdtW0 0xA131 (defaultDesc 0)
    d = { enable := true, cls := .notice, plan := 1, priority := 3, alarmTime := 100, recovery := .auto, promoteAt := 1,
          notify := false } ∧
      viewEdtW0 d = 0xA131 := by
  decide +kernel

/-- The shorted safe output: entering SAFE with SSO_MASK 0011 and EP_FAULT drives SSO0, SSO1 and the pair low in Stage E. -/
theorem test_safe_levels :
    let a : ActivePlan := { emptyPlan with ssoMask := 0x3, epFault := true, ack := true }
    let p : Profile := { defaultProfile with ep := { proto := .antiphase, half := 5, min := 10 } }
    (stageE (withProfile p ((at_ .safe 3000).setSup { resetSup with state := .safe, active := a }))).out.level = 0xCC := by
  decide +kernel

/-- A batch finds every pin but the fault lines low. -/
def calmPins : TickInputs :=
  { fl := 0xFFFF, hb := 0, outPins := 0, windowEnd := false, nvDone := false, compFault := 0, refPeriods := 0,
    cut := none, damage := [] }

/-- The first batch of the device: the profile load begins and the tick counter reads 1. -/
theorem test_first_batch :
    let t := after (.tickBatch calmPins) (after .oscillatorStart State.reset)
    t.clk.tick = 1 ∧ t.clk.initStep = .load ∧ t.nv.cur = some (.load, 1) ∧ t.sup.state = .init ∧ t.out.level = 0 := by
  decide +kernel

/-- A batch in which a reset begins. -/
def cutAt (c : ResetCause) (p : BatchPoint) : TickInputs := { calmPins with cut := some ⟨c, p⟩ }

/-- NORMAL with the condition of S55 alone raised, by software: its descriptor in the Default Profile is CRITICAL with P0. -/
def sw3Raised : State :=
  ((at_ .normal 100).setSw 0x8).setProf { (at_ .normal 100).prof with dflt := false }

/-- A pin reset after the first dispatch of a batch finds SAFE and two records; before it, NORMAL and none (R165, R166). -/
theorem test_reset_cuts_batch :
    (after (.tickBatch (cutAt .nrst (.dispatches 1))) sw3Raised).ret.latch = some ⟨.safe, 0, some 55, 2⟩ ∧
    (after (.tickBatch (cutAt .nrst (.dispatches 0))) sw3Raised).ret.latch = some ⟨.normal, 0, none, 0⟩ := by
  decide +kernel

/-- A frame begun before the last reset ended is ignored whole, though it completes after RESET_END (R20). -/
theorem test_stale_frame :
    after (.nop { tag := 1, start := .beforeResetEnd } 0) exchange1 = exchange1 ∧
      (after (.nop (tagged 1) 0) exchange1).port.lastTag = 1 :=
  ⟨rfl, by decide +kernel⟩

/-! ### Witnesses: states and operands that meet the hypotheses of each statement -/

/-- The archive entry of a power-on reset. -/
def porEntry : ArchEntry := { cause := .por, prior := none, level := 0, first := none, jseq := none, resets := 0 }

/-- NORMAL with an operation of the NV Controller in progress since tick 90. -/
def nvBusy (op : NvOp) : State := (at_ .normal 100).setNv { cur := some (op, 90), queue := [] }

/-- The hypotheses on the queue. -/
theorem test_witness_StepTakesFrontCommand :
    (State.reset.setPending [.por, .resetEnd]).pending = .por :: [.resetEnd] ∧ State.reset.pending = [] := ⟨rfl, rfl⟩

/-- A self-test in progress in a state. -/
def testing (n : Nat) (s : State) : State := s.setSt { result := .running n s.now, lastFail := none }

/-- A running device, with a reset at either end of a batch and with none; an archive write, an erasure and a commit that a reset cuts off; SOFT_RESET
executes, without and with a self-test in progress. -/
theorem test_witness_PorAndSoftResetBegin :
    (at_ .normal 100).clk.phase = .running ∧ calmPins.cut = none ∧
    (cutAt .supply .outputs).cut = some ⟨.supply, .outputs⟩ ∧ (cutAt .supply (.units 0)).cut = some ⟨.supply, .units 0⟩ ∧
    (nvBusy .erase).nv.cur = some (.erase, 90) ∧
    (nvBusy (.archWrite porEntry)).nv.cur = some (.archWrite porEntry, 90) ∧
    committing .bankA (nvBusy (.commit .bankA 1 defaultProfile)) = true ∧
    executes .softReset (tagged 0) 0x00005A (at_ .normal 100) = true ∧ selftestRunning (at_ .normal 100) = false ∧
    executes .softReset (tagged 0) 0x00005A (testing 5 (at_ .normal 100)) = true ∧
    selftestRunning (testing 5 (at_ .normal 100)) = true := by
  decide +kernel

/-- A device in a reset of a kind. -/
def inReset (k : ResetKind) : State := State.reset.setClk (resetClk (.inReset k) k)

/-- The clauses by the length of the low, at their ends; a batch in progress; a power-on reset in progress and none. -/
theorem test_witness_PinResetByLength :
    1999 < 2000 ∧ 10000 ≤ 10000 ∧ (at_ .normal 100).clk.phase ≠ .inReset .por ∧
      (inReset .por).clk.phase = .inReset .por ∧ 2000 ≤ 2000 ∧ 9999 < 10000 ∧ (at_ .normal 100).clk.phase = .running ∧
      (cutAt .nrst (.records 56)).cut = some ⟨.nrst, .records 56⟩ := by
  decide +kernel

/-- A device in reset, starting and running; the two starts of a frame that is not stale. -/
theorem test_witness_ResetEndAndOscillator :
    ((inReset .pin).clk.phase = .inReset .pin ∧ State.reset.clk.phase = .starting ∧
      (at_ .normal 0).clk.phase = .running ∧ FrameStart.onTime ≠ .beforeResetEnd ∧ FrameStart.early ≠ .beforeResetEnd) ∧
      ∃ k, (inReset .soft).clk.phase = .inReset k :=
  ⟨by decide +kernel, .soft, rfl⟩

/-- A running device and one that does not run, at the last tick before the counter wraps. -/
theorem test_witness_BatchAdvancesAndReports :
    (at_ .normal 0xFFFFFFFF).clk.phase = .running ∧ calmPins.cut = none ∧ State.reset.clk.phase ≠ .running := by
  decide +kernel

/-- RecordCreation: a journal with room for one record, a full one under each policy, and one of 32 pinned records. -/
theorem test_witness_RecordCreation :
    let j := fullJournal 255
    let pinned : Journal := { j with recs := j.recs.map (fun r => { r with body := .escalate 1 }) }
    ({ j with recs := j.recs.drop 1 }.recs.length < 32 ∧ 32 ≤ j.recs.length ∧ 32 ≤ pinned.recs.length) ∧
    (underPolicy .keepOldest j).prof.running.jrn.policy = .keepOldest ∧
    (underPolicy .keepNewest j).prof.running.jrn.policy = .keepNewest ∧
    (∀ x ∈ pinned.recs, ∃ n, x.body = .escalate n) ∧ ∃ x newer, j.recs = [] ++ x :: newer :=
  ⟨by decide +kernel, rfl, rfl,
    fun x hx => by
      obtain ⟨r, -, rfl⟩ := List.mem_map.mp hx
      exact ⟨1, rfl⟩,
    ⟨_, _, rfl⟩⟩

/-- Forty-eight bits. -/
theorem test_witness_CommandRowsAreTheirFrames : (List.replicate 48 false).length = 48 := by decide

/-- Frames one bit long, one bit short and one bit too long, at a port that processes them; a wrong check code; a right one over a
byte 1 with its lowest bit set. -/
theorem test_witness_DamagedFramesDiscarded :
    let f : RawFrame := ⟨0, 1, 0, 0, 0, crc8 [0, 1, 0, 0, 0]⟩
    (∀ n ∈ [1, 47, 49], (List.replicate n true).length ≠ 0 ∧ (List.replicate n true).length ≠ 48) ∧
    portOpen .onTime State.reset = true ∧ (0xB0 : Byte) ≠ crc8 [0x01, 0x20, 0, 0, 0] ∧
      f.b5 = crc8 [f.b0, f.b1, f.b2, f.b3, f.b4] ∧ f.b1.extractLsb' 0 5 ≠ 0 := by
  decide +kernel

/-- The port of the short exchange is SYNCHRONISED on tag 0, so that tag 7 is out of sequence. -/
theorem test_witness_WrongTagAnswersLastTag :
    portOpen .onTime exchange1 = true ∧ exchange1.port.synced = true ∧ (tagged 7).tag ≠ exchange1.port.lastTag ∧
      (tagged 7).tag ≠ exchange1.port.lastTag + 1 := by
  decide +kernel

/-- The same port has a stored result for tag 0. -/
theorem test_witness_RetransmissionNeverExecutes :
    portOpen .onTime exchange1 = true ∧ exchange1.port.synced = true ∧ (tagged 0).tag = exchange1.port.lastTag ∧
      exchange1.port.stored = some ⟨0, .ok, 0⟩ := by
  decide +kernel

/-- Each of the four checks fails for a frame: code 0xFF; SERVICE in INIT; CLEAR_SOURCE of source 56; a write of DEV_ID. -/
theorem test_witness_RejectedFrameConsumesTag :
    portOpen .onTime (at_ .normal 100) = true ∧ tagIsNew (at_ .normal 100) 0 = true ∧ cmdOf 0xFF = none ∧
      (∀ c ∈ catalogue, (0xFF : Byte) ≠ cmdCode c) ∧
      permitted .service .init false = false ∧ permitted .clearSource .normal false = true ∧
      argInRange .clearSource false 56 = false ∧ permitted .writeReg .normal false = true ∧
      argInRange .writeReg false 0 = true ∧ accessAllowed .writeReg false 0 = false := by
  decide +kernel

/-- Hypotheses of the statements about frames accepted as new: before and after SYNCHRONISED. -/
theorem test_witness_NopTouchesOnlyThePort :
    portOpen .onTime (at_ .init 100) = true ∧ tagIsNew (at_ .init 100) 5 = true ∧ portOpen .onTime exchange1 = true ∧
      tagIsNew exchange1 1 = true := by
  decide +kernel

/-- CapturesHeldAndReleased: with a frozen channel 3 and a channel that is not frozen. -/
theorem test_witness_CapturesHeldAndReleased :
    let s := exchange1.setHb (vset exchange1.hb 3 { resetHb with state := .frozen })
    portOpen .onTime s = true ∧ tagIsNew s (tagged 1).tag = true ∧ (vget s.hb 3).state = .frozen ∧
      (vget s.hb 0).state ≠ .frozen := by
  decide +kernel

/-- RegisterReads: the first and the last register of the map; counts to clear. -/
theorem test_witness_RegisterReads :
    let s := exchange1.setLink { resetLink with crc := 15, foreign := 0xFFFF, overrun := true }
    portOpen .onTime s = true ∧ tagIsNew s (tagged 1).tag = true ∧ regAccess 0x00 ≠ none ∧ regAccess 0x9E ≠ none ∧
      ∀ x ∈ ([0x00, 0x9E] : List Byte),
        x ∉ ([0x06, 0x07, 0x24, 0x25, 0x26, 0x27, 0x30, 0x31, 0x32, 0x33, 0x61] : List Byte) := by
  decide +kernel

/-- Whether the write of a value to an address executes. -/
def writes (x : Byte × Word) (s : State) : Bool := executes .writeReg (tagged 0) (x.1 ++ x.2) s

/-- SelectorWritesSelect: every selector at its largest value. -/
theorem test_witness_SelectorWritesSelect :
    ([(0x0F, 1), (0x10, 55), (0x35, 7), (0x38, 15), (0x80, 55), (0x84, 7), (0x88, 15), (0x8C, 3), (0x5A, 3)].all
      (fun x => writes x (at_ .safe 100))) = true := by
  decide +kernel

/-- StagingWriteReadsBack: every configuration register takes a value in a session. -/
theorem test_witness_StagingWriteReadsBack :
    (inSession (at_ .normal 100)).prof.session = .opn 50000 defaultProfile ∧
    ([(0x81, 0xA131), (0x82, 0xFF), (0x85, 0x1FF), (0x86, 1), (0x87, 1), (0x89, 0x7F), (0x8D, 0x8002),
        (0x8E, 2), (0x90, 0xC7FF), (0x91, 0x0101), (0x94, 0x81FF), (0x95, 0x0101), (0x98, 0x8001), (0x99, 0x0101),
        (0x9A, 0x0100), (0x9C, 0x8020), (0x9E, 0x8001)].all
      (fun x => regAccess x.1 == some .cs && writes x (inSession (at_ .normal 100)))) = true := by
  decide +kernel

/-- NORMAL with source 55 in a state, its condition present or not. -/
def source55 (x : SrcState) (cond : Bool) : State :=
  (at_ .normal 100).setSrc (vset State.reset.src 55 { resetSrc with state := x, cond := cond })

/-- ClearSourceByLatch: the three rows of R74 for S55. -/
theorem test_witness_ClearSourceByLatch :
    (∀ x ∈ [source55 .quiet false, source55 .active true, source55 .residual false],
      executes .clearSource (tagged 0) (BitVec.ofNat 24 55) x = true) ∧
    (vget (source55 .quiet false).src 55).state = .quiet ∧
    (vget (source55 .active true).src 55).state ≠ .quiet ∧ (vget (source55 .active true).src 55).cond = true ∧
    (vget (source55 .residual false).src 55).state ≠ .quiet ∧ (vget (source55 .residual false).src 55).cond = false := by
  decide +kernel

/-- InjectAndSoftwareSources: S55 is enabled and S16 disabled in the Default Profile; SW3 exists. -/
theorem test_witness_InjectAndSoftwareSources :
    executes .inject (tagged 0) (BitVec.ofNat 24 55) (at_ .normal 100) = true ∧
    executes .inject (tagged 0) (BitVec.ofNat 24 16) (at_ .normal 100) = true ∧
    (vget defaultProfile.desc 55).enable = true ∧ (vget defaultProfile.desc 16).enable = false ∧
    executes .raiseSw (tagged 0) (BitVec.ofNat 24 3) (at_ .normal 100) = true ∧
    executes .lowerSw (tagged 0) (BitVec.ofNat 24 3) (at_ .normal 100) = true := by
  decide +kernel

/-- PurgeRemovesSilentNode: node 7 is not SILENT at first, and is in the second state. -/
theorem test_witness_PurgeRemovesSilentNode :
    let s := (at_ .normal 100).setLink { resetLink with nodes := vset resetLink.nodes 7 ⟨none, .silent, 2000⟩ }
    executes .purgeNode (tagged 0) (BitVec.ofNat 24 7) (at_ .normal 100) = true ∧
    (vget (at_ .normal 100).link.nodes 7).nstate ≠ .silent ∧
    executes .purgeNode (tagged 0) (BitVec.ofNat 24 7) s = true ∧ (vget s.link.nodes 7).nstate = .silent := by
  decide +kernel

/-- AckSafeByToken: without a request; with the right token; with a first wrong token. -/
theorem test_witness_AckSafeByToken :
    let s := onLadder 10500 ⟨0x23, 10000, some 12000, false⟩ 0 0x124
    executes .ackSafe (tagged 0) ((0xFF : Byte).setWidth 24) (at_ .safe 100) = true ∧ (at_ .safe 100).ack.req = none ∧
    executes .ackSafe (tagged 0) ((0x23 : Byte).setWidth 24) s = true ∧
    executes .ackSafe (tagged 0) ((0x32 : Byte).setWidth 24) s = true ∧
    s.ack.req = some ⟨0x23, 10000, some 12000, false⟩ ∧ (0x32 : Byte) ≠ 0x23 := by
  decide +kernel

/-- SecondBadTokenEscalates: with each level to perform. -/
theorem test_witness_SecondBadTokenEscalates :
    ∀ l ∈ ([0, 1, 2, 3] : List (BitVec 2)),
      let s := onLadder 10600 ⟨0x23, 10000, some 12000, true⟩ l 0x130
      executes .ackSafe (tagged 0) ((0x32 : Byte).setWidth 24) s = true ∧
        s.ack.req = some ⟨0x23, 10000, some 12000, true⟩ ∧
        levelPerformed s = (if l = 3 then 3 else l + 1) := by
  decide +kernel

/-- ReleaseSafeInOrder: SAFE with nothing that blocks, and with each reason in turn. -/
theorem test_witness_ReleaseSafeInOrder :
    ∀ s ∈ [at_ .safe 100, withAck (some ⟨0, 0, none, false⟩) 0 (at_ .safe 100),
        (at_ .safe 100).setSup { resetSup with state := .safe, dwell := some 200 },
        (at_ .safe 100).setSup { resetSup with state := .safe, powerCut := .delaying 200 },
        (at_ .safe 100).setOut { resetOut with epMin := some 200 },
        (at_ .safe 100).setSrc (vset State.reset.src 55 { resetSrc with state := .residual, eff := some .alarm })],
      executes .releaseSafe (tagged 0) 0 s = true := by
  decide +kernel

/-- ServiceByPhase: SERVICE executes in each phase. -/
theorem test_witness_ServiceByPhase :
    ∀ p ∈ [WdPhase.off, .held, .initial 5400, .closed 1200, .opn 1400],
      executes .service (tagged 0) ((0xFF : Byte).setWidth 24) (slip 1000 ⟨p, 1, 7, .none⟩) = true := by
  decide +kernel

/-- PopAndPeekJournal: an empty journal, and one of 32 records. -/
theorem test_witness_PopAndPeekJournal :
    let s := underPolicy .keepOldest (fullJournal 255)
    (at_ .normal 100).jrn.recs = [] ∧ executes .popJournal (tagged 0) 0 (at_ .normal 100) = true ∧
    executes .peekJournal (tagged 0) 0 (at_ .normal 100) = true ∧ s.jrn.recs ≠ [] ∧ s.jrn.recs.length ≤ 32 ∧
    executes .popJournal (tagged 0) 0 s = true ∧ executes .peekJournal (tagged 0) 0 s = true := by
  decide +kernel

/-- A session open while an erasure is in progress. -/
def erasing : State := (inSession (at_ .normal 100)).setNv { cur := some (.erase, 90), queue := [] }

/-- ClearArchiveAndRunSelftestBegin: without and with an erasure; without and with a self-test. -/
theorem test_witness_ClearArchiveAndRunSelftestBegin :
    NvInv (inSession (at_ .normal 100)) ∧ executes .clearArchive (tagged 0) 0 (inSession (at_ .normal 100)) = true ∧
    NvInv erasing ∧ nvHolds .erase erasing ∧ executes .clearArchive (tagged 0) 0 erasing = true ∧
    executes .runSelftest (tagged 0) 0 (at_ .normal 100) = true ∧
    executes .runSelftest (tagged 0) 0 (testing 1 (at_ .normal 100)) = true :=
  ⟨fun _ => rfl, rfl, nofun, Or.inr ⟨90, rfl⟩, rfl, rfl, rfl⟩

/-- OpenSessionInTwoSteps: with the three session states and a locked profile. -/
theorem test_witness_OpenSessionInTwoSteps :
    let s := at_ .normal 100
    ∀ t ∈ [s, s.setProf { s.prof with session := .unlocking 200 }, inSession s,
        withProfile { defaultProfile with profLock := true } s],
      executes .openSession (tagged 0) ((0xC3 : Byte).setWidth 24) t = true ∧
        executes .openSession (tagged 0) ((0x3C : Byte).setWidth 24) t = true := by
  decide +kernel

/-- CloseApplyMakesStagingRunning: a session to apply, also one that ends ALERT. -/
theorem test_witness_CloseApplyMakesStagingRunning :
    (inSession (at_ .normal 100)).prof.session = .opn 50000 defaultProfile ∧
    executes .closeApply (tagged 0) 0 (inSession (at_ .normal 100)) = true ∧
    executes .closeApply (tagged 0) 0 (inSession alarmDue) = true ∧
    badHbWindow defaultProfile = false ∧ badAlarmTime defaultProfile = false := by
  decide +kernel

/-- DiscardAndCommitOfASession: the session of a device that loaded bank B, with an idle controller. -/
theorem test_witness_DiscardAndCommitOfASession :
    executes .closeDiscard (tagged 0) 0 loadedB = true ∧ NvInv loadedB ∧
      loadedB.prof.session = .opn 50000 defaultProfile ∧ executes .commitProfile (tagged 0) 0 loadedB = true :=
  ⟨rfl, fun _ => rfl, rfl, rfl⟩

/-- ResetCountsClearsCounts: inside and outside a session. -/
theorem test_witness_ResetCountsClearsCounts :
    executes .resetCounts (tagged 0) 0 (inSession (at_ .normal 100)) = true ∧ portOpen .onTime (at_ .normal 100) = true ∧
      tagIsNew (at_ .normal 100) (tagged 0).tag = true ∧ sessionOpen (at_ .normal 100) = false := by
  decide +kernel

/-- StandbyAndWakeCommands: NORMAL with each of the three reasons and without, and STANDBY. -/
theorem test_witness_StandbyAndWakeCommands :
    (∀ s ∈ [at_ .normal 100, testing 1 (at_ .normal 100), inSession (at_ .normal 100), source55 .residual false],
      executes .enterStandby (tagged 0) 0 s = true) ∧
    executes .wake (tagged 0) 0 (at_ .standby 100) = true := by
  decide +kernel

/-- A line unit of the Default Profile in a state. -/
def line15 (x : SupState) (u : FlUnit) : State := (at_ x 100).setFl (vset State.reset.fl 15 u)

/-- LineQualifiesAndReleases: line 15 with FILT 3 at its last sample, and with FILT 0 at once. -/
theorem test_witness_LineQualifiesAndReleases :
    let q := line15 .normal { resetFl with state := .qualifying, count := 3 }
    let r := line15 .normal { resetFl with state := .releasing, count := 3 }
    let p : Profile := { defaultProfile with fl := Vector.replicate 16 { defaultFl with filt := 0, wake := true } }
    q.clk.phase = .running ∧ flSampled q.sup.state (vget q.prof.running.fl 15) = true ∧
    (vget q.fl 15).state = .qualifying ∧ (vget q.prof.running.fl 15).filt.toNat ≤ (vget q.fl 15).count ∧
    flSampled r.sup.state (vget r.prof.running.fl 15) = true ∧
    (vget r.fl 15).state = .releasing ∧ (vget r.prof.running.fl 15).filt.toNat ≤ (vget r.fl 15).count ∧
    flSampled .standby (vget p.fl 15) = true ∧ (vget p.fl 15).filt = 0 := by
  decide +kernel

/-- LateHeartbeatAndClockMonitor: channel 3 one tick before MAX; the 199th batch without a window's end. -/
theorem test_witness_LateHeartbeatAndClockMonitor :
    let s := ((at_ .normal 100).setHb (vset State.reset.hb 3 { resetHb with state := .running, counter := 199 })).setClk
      { (at_ .normal 100).clk with winCount := 199 }
    s.clk.phase = .running ∧ (vget s.hb 3).state = .running ∧
      (vget s.prof.running.hb 3).max.toNat ≤ ((vget s.hb 3).counter + 1).toNat ∧ 199 ≤ s.clk.winCount := by
  decide +kernel

/-- SilenceAndBeaconTimers: node 5 and the beacon, each one tick before its limit. -/
theorem test_witness_SilenceAndBeaconTimers :
    let s := withProfile linkProfile ((at_ .normal 1999).setLink
      { resetLink with nodes := vset resetLink.nodes 5 ⟨none, .unknown, 1999⟩, beacon := 999 })
    s.clk.phase = .running ∧ linkOperates s.prof.running.link s.sup.state = true ∧
      watched s.prof.running.link 5 = true ∧ (vget s.link.nodes 5).nstate ≠ .silent ∧
      s.prof.running.link.timeout.toNat * 100 ≤ (vget s.link.nodes 5).silence + 1 ∧
      s.prof.running.link.beaconPeriod.toNat * 100 ≤ s.link.beacon + 1 := by
  decide +kernel

/-- IntakeAppliesOldestMessage: an event of code 15, a beacon of code 255, a message of a node that is not watched. -/
theorem test_witness_IntakeAppliesOldestMessage :
    linkAfter60.clk.phase = .running ∧ linkOperates linkAfter60.prof.running.link linkAfter60.sup.state = true ∧
    ∀ m ∈ ([⟨2, .event, 6, 15, 0x31⟩, ⟨5, .beacon, 0, 255, 0⟩, ⟨7, .clear, 0, 0, 0⟩] : List LinkMsg),
      (linkAfter60.setLink { linkAfter60.link with inbox := [m] }).link.inbox = m :: [] ∧
        (m.kind ≠ .beacon → m.code.toNat ≤ 15) := by
  decide +kernel

/-- A comparator of the Default Profile (OSV_FILTER 3). -/
def comparator7 (c : Comp) : State := (at_ .normal 100).setOut { resetOut with comps := vset resetOut.comps 7 c }

/-- ComparatorTransitions: comparator 7 at the last step of each transition. -/
theorem test_witness_ComparatorTransitions :
    (at_ .normal 100).clk.phase = .running ∧ (at_ .normal 100).sup.state ≠ .init ∧
    (vget (comparator7 ⟨1, false, 0⟩).out.comps 7).settle = 1 ∧
    (∀ q : Bool, (vget (comparator7 ⟨0, q, 2⟩).out.comps 7).settle = 0 ∧
      (vget (comparator7 ⟨0, q, 2⟩).out.comps 7).qual = q ∧
      (comparator7 ⟨0, q, 2⟩).prof.running.osv.filter.toNat ≤
        (vget (comparator7 ⟨0, q, 2⟩).out.comps 7).count.toNat + 1) := by
  decide +kernel

/-- ExchangeSwapsPhases: a due exchange in NORMAL, with and without a pending change. -/
theorem test_witness_ExchangeSwapsPhases :
    ∀ b : Bool,
      let s := (at_ .normal 100).setOut { resetOut with pair := .antiphase true 100 b }
      s.clk.phase = .running ∧ s.out.pair = .antiphase true 100 b ∧ pairNeed s.sup.state s.sup.active = .healthy ∧
        isDue s.now 100 = true := by
  decide +kernel

/-- WatchdogPhasesRunOut: phases due at this tick. -/
theorem test_witness_WatchdogPhasesRunOut :
    (slip 1300 ⟨.closed 1300, 4, 1, .early⟩).clk.phase = .running ∧
    (slip 1300 ⟨.closed 1300, 4, 1, .early⟩).wd.phase = .closed 1300 ∧
    (slip 1300 ⟨.opn 1300, 4, 1, .early⟩).wd.phase = .opn 1300 ∧
    (slip 1300 ⟨.initial 1300, 4, 1, .early⟩).wd.phase = .initial 1300 ∧
    isDue (slip 1300 ⟨.opn 1300, 4, 1, .early⟩).now 1300 = true := by
  decide +kernel

/-- SourceRecordTable: a record and a descriptor for each of the five rows. -/
theorem test_witness_SourceRecordTable :
    let q : SrcRec := { resetSrc with cond := true, count := 255 }
    let a : SrcRec := { resetSrc with state := .active }
    (q.state = .quiet ∧ (q.cond || q.inj) = true ∧ (defaultDesc 0).enable = true) ∧
    (resetSrc.state = .quiet ∧ (resetSrc.cond || resetSrc.inj) = false) ∧ (defaultDesc 16).enable = false ∧
    ({ a with inj := true }.state ≠ .quiet ∧ ({ a with inj := true }.cond || { a with inj := true }.inj) = true) ∧
    (a.state ≠ .quiet ∧ (a.cond || a.inj) = false) ∧ (defaultDesc 50).recovery = .auto ∧
    (defaultDesc 0).recovery = .host := by
  decide +kernel

/-- An occurrence of S55 of a class. -/
def occ55 (c : Cls) : Occ :=
  { src := 55, cls := c, plan := 7, priority := 15, alarmTime := 255, detail := 0, node := none, injected := false,
    promoted := false }

/-- ALERT with this many entries in the Alarm List. -/
def alerts (n : Nat) : State :=
  (at_ .alert 100).setSup { resetSup with state := .alert, alarms := List.replicate n ⟨10, 2050, 2⟩ }

/-- CriticalEntersSafe: an occurrence of each class in NORMAL, in ALERT with room for one entry and for none, in SAFE and in
LOCKDOWN; in SAFE without a request, with one created in this tick and with one created one tick earlier. -/
theorem test_witness_CriticalEntersSafe :
    (at_ .normal 100).sup.state = .normal ∧ (alerts 7).sup.state = .alert ∧ (alerts 7).sup.alarms.length < 8 ∧
    (alerts 8).sup.state = .alert ∧ 8 ≤ (alerts 8).sup.alarms.length ∧ (at_ .safe 100).sup.state = .safe ∧
    (at_ .lockdown 100).sup.state = .lockdown ∧ (∀ c : Cls, (occ55 c).cls = c) ∧ (at_ .safe 100).ack.req = none ∧
    (onLadder 10600 ⟨0x23, 10600, some 12600, false⟩ 0 0x124).ack.req.map (·.created) =
      some (onLadder 10600 ⟨0x23, 10600, some 12600, false⟩ 0 0x124).now ∧
    (onLadder 10600 ⟨0x23, 10599, some 12599, false⟩ 0 0x124).sup.state = .safe ∧
    (onLadder 10600 ⟨0x23, 10599, some 12599, false⟩ 0 0x124).ack.req = some ⟨0x23, 10599, some 12599, false⟩ ∧
    (10599 : Tick) ≠ (onLadder 10600 ⟨0x23, 10599, some 12599, false⟩ 0 0x124).now :=
  ⟨rfl, rfl, by decide, rfl, by decide, rfl, rfl, fun _ => rfl, rfl, rfl, rfl, rfl, by decide⟩

/-- ExpiryEntersSafe: the unanswered alarm. -/
theorem test_witness_ExpiryEntersSafe :
    alarmDue.clk.phase = .running ∧ alarmDue.sup.state = .alert ∧ alarmDue.sup.alarms = ⟨10, 2050, 2⟩ :: [] ∧
      isDue alarmDue.now 2050 = true := by
  decide +kernel

/-- DeadlineExpiryEscalates: the ladder at each level to perform. -/
theorem test_witness_DeadlineExpiryEscalates :
    ∀ l ∈ ([0, 1, 2, 3] : List (BitVec 2)),
      let s := onLadder 12701 ⟨0x30, 10600, some 12701, false⟩ l 0x131
      s.clk.phase = .running ∧ s.sup.state = .safe ∧ s.ack.req = some ⟨0x30, 10600, some 12701, false⟩ ∧
        isDue s.now 12701 = true ∧ levelPerformed s = (if l = 3 then 3 else l + 1) := by
  decide +kernel

/-- SAFE with a host-reset action. -/
def safeReset (h : HostReset) : State := (at_ .safe 100).setSup { resetSup with state := .safe, hostReset := h }

/-- SafeTimersRunOut: a start and an end of a pulse, a cut, a dwell and an EP minimum-active time due at this tick. -/
theorem test_witness_SafeTimersRunOut :
    let s := ((at_ .safe 100).setSup { resetSup with state := .safe, powerCut := .delaying 100, dwell := some 100 }).setOut
      { resetOut with epMin := some 100 }
    s.clk.phase = .running ∧ s.sup.state = .safe ∧ s.sup.powerCut = .delaying 100 ∧ s.sup.dwell = some 100 ∧
    s.out.epMin = some 100 ∧ isDue s.now 100 = true ∧
    (safeReset (.delaying 100 10)).clk.phase = .running ∧ (safeReset (.delaying 100 10)).sup.state = .safe ∧
    (safeReset (.delaying 100 10)).sup.hostReset = .delaying 100 10 ∧
    (safeReset (.pulsing 100)).sup.hostReset = .pulsing 100 ∧ isDue (safeReset (.pulsing 100)).now 100 = true := by
  decide +kernel

/-- AutomaticReleaseReleases: SAFE with AUTO_RELEASE and nothing that blocks; a power cut in CUT does not block. -/
theorem test_witness_AutomaticReleaseReleases :
    let s := (at_ .safe 100).setSup
      { resetSup with state := .safe, active := { emptyPlan with autoRelease := true }, powerCut := .cut }
    (s.clk.phase = .running ∧ s.sup.state = .safe ∧ s.sup.active.autoRelease = true ∧ s.ack.req = none ∧
      s.sup.dwell = none ∧ s.sup.hostReset = .idle ∧ s.out.epMin = none ∧ severeLatched s = false) ∧
      ∀ d, s.sup.powerCut ≠ .delaying d :=
  ⟨by decide +kernel, fun _ h => nomatch h⟩

/-- SelftestStepCompletes: the first and the last step, due; a fifth step that fails and one that passes; a run of INIT. -/
theorem test_witness_SelftestStepCompletes :
    let s := testing 5 (at_ .normal 100)
    let i := testing 5 ((at_ .init 100).setClk { (at_ .init 100).clk with initStep := .selftest })
    (s.clk.phase = .running ∧ s.st.result = .running 5 100 ∧ isDue s.now 100 = true ∧
    i.clk.phase = .running ∧ i.st.result = .running 5 100 ∧ i.sup.state = .init ∧ i.clk.initStep = .selftest ∧
    (testing 1 (at_ .normal 100)).st.result = .running 1 100) ∧
    ¬ checkPasses 5 0 23 s ∧ checkPasses 5 0 24 s ∧ checkPasses 5 0 27 s ∧ ¬ checkPasses 5 0 28 s ∧
    checkPasses 4 0 0 s ∧ ¬ checkPasses 4 0x80 0 s ∧ checkPasses 1 0 0 s := by
  refine ⟨by decide +kernel, ?_⟩
  simp [checkPasses]
  rfl

/-- INIT at a step, with two banks and an operation in progress. -/
def initWith (step : InitStep) (a b : Bank) (op : NvOp) : State :=
  (((at_ .init 100).setClk { (at_ .init 100).clk with initStep := step }).setProf (resetProf a b)).setNv
    { cur := some (op, 1), queue := [] }

/-- ProfileLoadChoosesBank: the newer bank by generation modulo 2^16, either bank alone, none. -/
theorem test_witness_ProfileLoadChoosesBank :
    let s := initWith .load (writtenBank 0 defaultProfile) (writtenBank 0xFFFF defaultProfile) .load
    (s.clk.phase = .running ∧ s.nv.cur = some (.load, 1) ∧ s.nv.queue = [] ∧ s.sup.state = .init ∧
    s.clk.initStep = .load) ∧ readBank s.prof.bankA = .valid 0 defaultProfile ∧ genNewer 0xFFFF 0 = false ∧
    genNewer 0 0xFFFF = true ∧ readBank (writtenBank 1 defaultProfile) = .valid 1 defaultProfile ∧
    readBank erasedBank = .erased ∧ readBank { erasedBank with marker := true } = .damaged :=
  ⟨⟨rfl, rfl, rfl, rfl, rfl⟩, readBank_writtenBank _ _, rfl, rfl, readBank_writtenBank _ _, rfl, rfl⟩

/-- Archive slots of which slot 3 holds the only claim, with ordinal 255. -/
def slot3 : Vector ArchSlot 4 := vset State.reset.arch.slots 3 (writtenSlot 255 porEntry)

/-- A slot other than slot 3 has no claim. -/
theorem slot3_others (j : Fin 4) (h : j ≠ 3) : claimOrd (vget slot3 j) = none := by
  rw [slot3, vget_vset_ne _ _ _ _ h]
  revert j
  decide +kernel

/-- SelectorWritesSelect and the archive: slot 3 is the newest slot, and the only one. -/
theorem test_newest_slot : newestWith slot3 3 255 ∧ ∀ m b, newestWith slot3 m b → m = 3 := by
  refine ⟨⟨by simp [slot3], fun j b hj hb => ?_⟩, fun m b hm => Decidable.byContradiction fun hj => ?_⟩
  · simp [slot3_others j hj] at hb
  · exact nomatch (slot3_others m hj).symm.trans hm.1

/-- StoredContentIsJudged: a VALID slot, a VALID bank, and the damage of a single bit. -/
theorem test_witness_StoredContentIsJudged :
    readSlot (vget slot3 3) = .valid 255 porEntry ∧
      readBank (bankOf .bankB loadedB.prof) = .valid 7 defaultProfile ∧ (1 : Word) ≠ 0 ∧ (0x80 : Byte) ≠ 0 ∧
      calmPins.damage = [] :=
  ⟨by simp [slot3], readBank_writtenBank _ _, by decide, by decide, rfl⟩

/-- NvOperationsBeginAndComplete: a request waiting on an idle controller; an archive write in NORMAL, with four EMPTY slots
and with a newest slot; one in INIT, with and without a self-test; an erasure; a commit that has run 200 ticks, with nothing
behind it. -/
theorem test_witness_NvOperationsBeginAndComplete :
    let idle := (at_ .normal 100).setNv { cur := none, queue := [.erase] }
    let w := initWith .archive erasedBank erasedBank (.archWrite porEntry)
    let c := (at_ .normal 300).setNv { cur := some (.commit .bankA 8 defaultProfile, 100), queue := [] }
    (idle.clk.phase = .running ∧ idle.nv.cur = none ∧ idle.nv.queue = .erase :: [] ∧
    (nvBusy (.archWrite porEntry)).nv.cur = some (.archWrite porEntry, 90) ∧
    (nvBusy (.archWrite porEntry)).sup.state ≠ .init ∧
    (∀ j, claimOrd (vget (nvBusy (.archWrite porEntry)).arch.slots j) = none) ∧
    w.nv.cur = some (.archWrite porEntry, 1) ∧ w.nv.queue = [] ∧ w.sup.state = .init ∧ w.clk.initStep = .archive ∧
    w.ret.sticky = false ∧ w.prof.running.stAtInit = true ∧ (nvBusy .erase).nv.cur = some (.erase, 90) ∧
    c.clk.phase = .running ∧ c.nv.cur = some (.commit .bankA 8 defaultProfile, 100) ∧ 200 ≤ (c.now - 100).toNat ∧
    c.nv.queue = []) ∧
    newestWith slot3 3 255 ∧ ∀ m b, newestWith slot3 m b → m = 3 :=
  ⟨by decide +kernel, test_newest_slot⟩

/-- SessionTimersRunOut: both timers due; a commit begun, one waiting, none. -/
theorem test_witness_SessionTimersRunOut :
    let u := (at_ .normal 200).setProf { (at_ .normal 200).prof with session := .unlocking 200 }
    let o := inSession (at_ .normal 50000)
    let c := (o.setProf { o.prof with commit := .busy }).setNv
      { cur := some (.commit .bankA 1 defaultProfile, 49900), queue := [] }
    u.clk.phase = .running ∧ u.prof.session = .unlocking 200 ∧ isDue u.now 200 = true ∧
    o.prof.session = .opn 50000 defaultProfile ∧ isDue o.now 50000 = true ∧ o.prof.commit ≠ .busy ∧
    c.prof.commit = .busy ∧ committing .bankA c = true ∧ committing .bankB c = false := by
  decide +kernel

/-- WakeAndWakingEnd: a wake request in STANDBY; WAKING due. -/
theorem test_witness_WakeAndWakingEnd :
    let s := (at_ .standby 100).setClk { (at_ .standby 100).clk with wakeReq := true }
    let w := (at_ .waking 100).setClk { (at_ .waking 100).clk with wakingDue := some 100 }
    s.clk.phase = .running ∧ s.sup.state = .standby ∧ s.clk.wakeReq = true ∧ w.clk.phase = .running ∧
      w.sup.state = .waking ∧ w.clk.wakingDue = some 100 ∧ isDue w.now 100 = true := by
  decide +kernel

/-- PeerMessageChecked: a receiver that is ready, one that is off, one that has received two bytes, one that watches for a wake, and
one after a complete message; levels with and without a low one. -/
theorem test_witness_PeerMessageChecked :
    linkAfter60.link.rx = .ready ∧ State.reset.link.rx = .off false ∧ false ∉ [true] ∧ false ∈ [true, false] ∧
      ({ resetLink with rx := .assembling [0x65, 7] [] } : Link).rx = .assembling [0x65, 7] [] ∧ [0x65, 7].length < 3 ∧
      ((at_ .standby 100).setLink { resetLink with rx := .wakeWatch true }).link.rx = .wakeWatch true ∧
      ((at_ .waking 100).setLink { resetLink with rx := .wakeWatch true }).sup.state ≠ .standby ∧
      ∀ b : Bool, ({ resetLink with rx := .notReady (.afterComplete b) } : Link).rx = .notReady (.afterComplete b) := by
  decide +kernel

/-- ReceiverEventsCounted: a receiver after a complete message, with an early run begun and not, and one within a message. -/
theorem test_witness_ReceiverEventsCounted :
    linkAfter60.link.rx = .ready ∧ State.reset.link.rx = .off false ∧ (∀ b, resetLink.rx ≠ .notReady (.afterComplete b)) ∧
      ({ resetLink with rx := .assembling [0x65] [] } : Link).rx = .assembling [0x65] [] ∧
      ∀ b : Bool, ({ resetLink with rx := .notReady (.afterComplete b) } : Link).rx = .notReady (.afterComplete b) :=
  ⟨by decide +kernel, rfl, nofun, rfl, fun _ => rfl⟩

/-- StartBitAndTransmitter: a watching receiver in STANDBY; a pending announcement on a free line. -/
theorem test_witness_StartBitAndTransmitter :
    let s := (at_ .standby 100).setLink { resetLink with rx := .wakeWatch true }
    let p := (at_ .normal 100).setLink { resetLink with rx := .ready, pendingTx := some .normal }
    let q := (at_ .standby 100).setLink { resetLink with rx := .off true, pendingTx := some .standby }
    p.setLink { p.link with rx := .assembling [] [false] } ≠ p ∧ s.sup.state = .standby ∧ s.link.rx = .wakeWatch true ∧ p.link.flight = none ∧ p.link.pendingTx = some .normal ∧
      p.link.rx = .ready ∧ q.sup.state = .standby ∧ q.link.rx = .off true ∧ q.link.flight = none ∧
      q.link.pendingTx = some .standby ∧ State.reset.link.pendingTx = none := by
  decide +kernel

/-- LockdownLeftOnlyByReset: a batch in LOCKDOWN answers a next state. -/
theorem test_witness_LockdownLeftOnlyByReset :
    (at_ .lockdown 100).sup.state = .lockdown ∧ Instr.missingReference ≠ .por ∧
      (∀ n, Instr.missingReference ≠ .pinReset n) ∧
      (∀ inp, Instr.missingReference = .tickBatch inp → inp.cut = none) ∧
      exec .missingReference (at_ .lockdown 100) = .next (after .missingReference (at_ .lockdown 100)) :=
  ⟨rfl, nofun, nofun, nofun, rfl⟩

/-- StickyFlagOnlyByPorAndLockdown: the flag is set and kept, and set by the last rung of the ladder. -/
theorem test_witness_StickyFlagOnlyByPorAndLockdown :
    (∃ t, exec .ackDeadlineExpiry (onLadder 14801 ⟨0x31, 12701, some 14801, false⟩ 2 0x132) = .next t ∧
      t.ret.sticky = true) ∧
    (onLadder 14801 ⟨0x31, 12701, some 14801, false⟩ 2 0x132).ret.sticky = false ∧
    ((at_ .lockdown 100).setRet { porRetained with sticky := true }).ret.sticky = true :=
  ⟨⟨after .ackDeadlineExpiry (onLadder 14801 ⟨0x31, 12701, some 14801, false⟩ 2 0x132), rfl, by decide +kernel⟩, rfl, rfl⟩

/-- InvariantsAreKept: the unanswered alarm meets the invariants, and its queue lets a step run. -/
theorem test_witness_InvariantsAreKept :
    Inv (alarmDue.setPending [.expiry]) ∧
      step (alarmDue.setPending [.expiry]) = .next (after .expiry alarmDue) := by
  refine ⟨?_, rfl⟩
  simp only [Machine.Inv, JrnInv, SupInv, NvInv, PortInv]
  decide +kernel

end Sys2Proof.Tests
end

section
/-!
PROOF. Every command completes and leaves the queue alone: the queue after each executing rule of the host port, after a frame,
after a step inside a batch and after a batch, and from these the statement over all rows.
-/

namespace Sys2Proof.Machine

set_option Elab.async false

/-! ### The executing rules of the host port -/

theorem readEffect_pending (addr : Byte) (s : State) : (readEffect addr s).pending = s.pending := by
  unfold readEffect
  split <;> rfl

theorem writeStaging_pending (addr : Byte) (x : Word) (s : State) : (writeStaging addr x s).pending = s.pending := by
  unfold writeStaging
  split <;> rfl

theorem writeEffect_pending (addr : Byte) (x : Word) (s : State) : (writeEffect addr x s).pending = s.pending := by
  unfold writeEffect
  split
  case h_10 => exact writeStaging_pending _ _ _
  all_goals rfl

theorem doClearSource_pending (arg : BitVec 24) (s : State) : (doClearSource arg s).st.pending = s.pending := by
  unfold doClearSource
  simp only []
  split
  · rfl
  all_goals
    split
    · rfl
    · exact (only_clearEffects _ _).same .pending

theorem doInject_pending (arg : BitVec 24) (s : State) : (doInject arg s).st.pending = s.pending := by
  unfold doInject
  simp only []
  split <;> rfl

theorem doPurgeNode_pending (arg : BitVec 24) (s : State) : (doPurgeNode arg s).st.pending = s.pending := by
  unfold doPurgeNode
  simp only []
  split <;> rfl

theorem doAckSafe_pending (arg : BitVec 24) (s : State) : (doAckSafe arg s).st.pending = s.pending := by
  have h : (acknowledge (argLow arg) s).2.pending = s.pending := (only_acknowledge _ s).same .pending
  unfold doAckSafe
  split <;> rename_i ha <;> rw [ha] at h
  · rfl
  · exact h
  · exact h

theorem doReleaseSafe_pending (s : State) : (doReleaseSafe s).st.pending = s.pending := by
  unfold doReleaseSafe
  split
  · rfl
  · exact (only_release s).same .pending

theorem doService_pending (arg : BitVec 24) (s : State) : (doService arg s).st.pending = s.pending := by
  unfold doService
  split <;> rfl

theorem lostMarker_pending (s : State) : (lostMarker s).pending = s.pending := by
  unfold lostMarker
  split <;> rfl

theorem doPopJournal_pending (s : State) : (doPopJournal s).st.pending = s.pending := by
  unfold doPopJournal
  split
  · rfl
  · exact lostMarker_pending _

theorem doPeekJournal_pending (s : State) : (doPeekJournal s).st.pending = s.pending := by
  unfold doPeekJournal
  split <;> rfl

theorem doClearArchive_pending (s : State) : (doClearArchive s).st.pending = s.pending := by
  unfold doClearArchive
  split
  · rfl
  · exact (only_nvRequest _ _).same .pending

theorem doOpenSession_pending (arg : BitVec 24) (s : State) : (doOpenSession arg s).st.pending = s.pending := by
  unfold doOpenSession
  split
  · rfl
  · split
    · rfl
    · split <;> rfl
    · split
      · exact (only_abortSelftest _).same .pending
      · rfl

theorem dropAlarms_pending (g : Alarm → Bool) (s : State) : (dropAlarms g s).pending = s.pending :=
  (only_dropAlarms g s).same .pending

theorem adjustBlocks_pending (old new : Profile) (s : State) : (adjustBlocks old new s).pending = s.pending := by
  simp [adjustBlocks]

theorem applyProfile_pending (p : Profile) (s : State) : (applyProfile p s).pending = s.pending := by
  unfold applyProfile
  rw [dropAlarms_pending, adjustBlocks_pending]
  rfl

theorem doCloseApply_pending (s : State) : (doCloseApply s).st.pending = s.pending := by
  unfold doCloseApply
  split
  · split
    · rfl
    · exact applyProfile_pending _ s
  · rfl
  · rfl

theorem doCloseDiscard_pending (s : State) : (doCloseDiscard s).st.pending = s.pending := by
  unfold doCloseDiscard
  split <;> rfl

theorem doCommit_pending (s : State) : (doCommit s).st.pending = s.pending := by
  unfold doCommit
  split
  · split
    · rfl
    · exact (only_nvRequest _ _).same .pending
  · rfl
  · rfl

theorem doRunSelftest_pending (s : State) : (doRunSelftest s).st.pending = s.pending := by
  unfold doRunSelftest
  split <;> rfl

theorem doEnterStandby_pending (s : State) : (doEnterStandby s).st.pending = s.pending := by
  unfold doEnterStandby
  split
  · rfl
  · split
    · rfl
    · split
      · rfl
      · exact (only_enterStandby s).same .pending

theorem doSoftReset_pending (s : State) : (doSoftReset s).st.pending = s.pending := by
  unfold doSoftReset
  split
  · rfl
  · exact beginReset_pending _ _

/-- No executing rule of section 1.4 touches the queue. -/
theorem runCommand_pending (c : Cmd) (arg : BitVec 24) (s : State) : (runCommand c arg s).st.pending = s.pending := by
  cases c with
  | nop => rfl
  | readReg => exact readEffect_pending _ _
  | writeReg => exact writeEffect_pending _ _ _
  | clearSource => exact doClearSource_pending _ _
  | inject => exact doInject_pending _ _
  | raiseSw => rfl
  | lowerSw => rfl
  | purgeNode => exact doPurgeNode_pending _ _
  | ackSafe => exact doAckSafe_pending _ _
  | releaseSafe => exact doReleaseSafe_pending _
  | service => exact doService_pending _ _
  | popJournal => exact doPopJournal_pending _
  | peekJournal => exact doPeekJournal_pending _
  | openSession => exact doOpenSession_pending _ _
  | closeApply => exact doCloseApply_pending _
  | closeDiscard => exact doCloseDiscard_pending _
  | commitProfile => exact doCommit_pending _
  | resetCounts => exact setSrc_pending s _
  | clearArchive => exact doClearArchive_pending _
  | runSelftest => exact doRunSelftest_pending _
  | enterStandby => exact doEnterStandby_pending _
  | wake => exact (only_beginWaking s).same .pending
  | softReset => exact doSoftReset_pending _

/-! ### Frames -/

theorem afterCommand_pending (c : Cmd) (before s : State) : (afterCommand c before s).pending = s.pending := by
  unfold afterCommand
  simp only [refreshCrit, refreshAttn, copyChanged, setCrit_pending, setAttn_pending, setSrc_pending]
  split
  · rfl
  · exact cancelUnlock_pending s

theorem storeResult_pending (tag : BitVec 3) (res : Res) (data : BitVec 24) (s : State) :
    (storeResult tag res data s).pending = s.pending := rfl

theorem execute_pending (tag : BitVec 3) (c : Cmd) (arg : BitVec 24) (s : State) :
    (execute tag c arg s).pending = s.pending := by
  unfold execute
  simp only []
  split
  · exact runCommand_pending c arg s
  · rw [storeResult_pending, afterCommand_pending, runCommand_pending]

theorem judgeCommand_pending (tag : BitVec 3) (c : Cmd) (arg : BitVec 24) (s : State) :
    (judgeCommand tag c arg s).pending = s.pending := by
  unfold judgeCommand
  split
  · rfl
  · split
    · rfl
    · split
      · rfl
      · exact execute_pending _ _ _ _

theorem processNew_pending (f : RawFrame) (s : State) : (processNew f s).pending = s.pending := by
  unfold processNew
  split
  · rfl
  · exact judgeCommand_pending _ _ _ _

theorem retransmit_pending (s : State) : (retransmit s).pending = s.pending := by
  unfold retransmit
  simp only []
  split <;> rfl

theorem processFrame_pending (f : RawFrame) (s : State) : (processFrame f s).pending = s.pending := by
  unfold processFrame
  split
  · rfl
  · split
    · rfl
    · split
      · exact processNew_pending f s
      · exact retransmit_pending s
      · rfl

theorem onPort_pending (start : FrameStart) (n : Nat) {process : State → State}
    (h : ∀ u, (process u).pending = u.pending) (s : State) : (onPort start n process s).pending = s.pending := by
  unfold onPort
  split
  · rfl
  · split
    · rfl
    · rfl
    · exact h _
    · exact h _

theorem hostFrame_pending (start : FrameStart) (f : RawFrame) (s : State) : (hostFrame start f s).pending = s.pending :=
  onPort_pending start 48 (processFrame_pending f) s

theorem hostBits_pending (start : FrameStart) (bits : List Bool) (s : State) :
    (hostBits start bits s).pending = s.pending := by
  unfold hostBits
  split
  · rfl
  · split
    · exact hostFrame_pending _ _ _
    · exact onPort_pending _ _ (process := rejectLength) (fun _ => rfl) s

theorem commandFrame_pending (h : FrameHead) (code : Byte) (arg : BitVec 24) (s : State) :
    (commandFrame h code arg s).pending = s.pending := hostFrame_pending _ _ _

/-! ### Resets and batches -/

theorem beginPinReset_pending (s : State) : (beginPinReset s).pending = s.pending := by
  unfold beginPinReset
  split
  · rfl
  · exact beginReset_pending _ _

theorem pinResetOn_pending (n : Nat) (s : State) : (pinResetOn n s).pending = s.pending := by
  unfold pinResetOn
  split
  · rfl
  · split
    · exact beginPinReset_pending s
    · simp only []
      split
      · exact beginPinReset_pending _
      · rfl

theorem endReset_pending (s : State) : (endReset s).pending = s.pending := by
  unfold endReset
  split <;> rfl

theorem oscillatorStable_pending (s : State) : (oscillatorStable s).pending = s.pending := by
  unfold oscillatorStable
  split <;> rfl

theorem oscillatorStops_pending (s : State) : (oscillatorStops s).pending = s.pending := by
  unfold oscillatorStops
  split <;> rfl

/-- A batch leaves the queue alone, whether or not a reset abandons it. -/
theorem tickBatch_pending (inp : TickInputs) (s : State) : (tickBatch inp s).pending = s.pending := by
  cases hc : inp.cut with
  | none => exact (only_tickBatch hc s).same .pending
  | some c =>
    unfold tickBatch
    split
    · rw [hc]
      exact (beginReset_pending _ _).trans ((only_abandonBatch inp c.point s).same .pending)
    · rfl

/-! ### Steps inside a batch -/

theorem inBatch_pending {f : State → State} {s : State} (h : (f s).pending = s.pending) :
    (inBatch f s).pending = s.pending := by
  unfold inBatch
  split
  · exact h
  · rfl

theorem inStageD_pending {f : State → State} {s : State} (h : (f s).pending = s.pending) :
    (inStageD f s).pending = s.pending := inBatch_pending (f := fun u => refreshCrit (f u)) h

theorem signalWake_pending (x : SupState) (w : Bool) (s : State) : (signalWake x w s).pending = s.pending :=
  (only_signalWake x w s).same .pending

theorem qualifyLine_pending (n : Fin 16) (s : State) : (qualifyLine n s).pending = s.pending := by
  unfold qualifyLine
  simp only []
  split
  · exact signalWake_pending _ _ _
  · rfl

theorem releaseLine_pending (n : Fin 16) (s : State) : (releaseLine n s).pending = s.pending := by
  unfold releaseLine
  simp only []
  split <;> rfl

theorem lateHeartbeat_pending (n : Fin 4) (s : State) : (lateHeartbeat n s).pending = s.pending := by
  unfold lateHeartbeat
  simp only []
  split <;> rfl

theorem silentNode_pending (n : Fin 8) (s : State) : (silentNode n s).pending = s.pending := by
  unfold silentNode
  simp only []
  split <;> rfl

theorem beaconTimer_pending (s : State) : (beaconTimer s).pending = s.pending := by
  unfold beaconTimer
  simp only []
  split <;> rfl

theorem intakeOne_pending (s : State) : (intakeOne s).pending = s.pending := by
  unfold intakeOne
  split <;> rfl

theorem missReference_pending (s : State) : (missReference s).pending = s.pending := by
  unfold missReference
  split <;> rfl

theorem compOne_pending (i : Fin 8) (sample : Bool) (wanted : Comp → Comp → Bool) (s : State) :
    (compOne i sample wanted s).pending = s.pending := by
  unfold compOne
  simp only []
  split <;> rfl

theorem exchangeNow_pending (s : State) : (exchangeNow s).pending = s.pending := by
  unfold exchangeNow
  simp only []
  split <;> rfl

theorem closedEnds_pending (s : State) : (closedEnds s).pending = s.pending := by
  unfold closedEnds
  split <;> rfl

theorem openEnds_pending (s : State) : (openEnds s).pending = s.pending := by
  unfold openEnds
  split <;> rfl

theorem finishOp_pending (wanted : NvOp → Bool) (s : State) : (finishOp wanted s).pending = s.pending := by
  unfold finishOp
  split
  · rfl
  · split
    · exact (only_stepNv true s).same .pending
    · rfl

/-! ### The link between batches -/

theorem startBitWake_pending (s : State) : (startBitWake s).pending = s.pending := by
  unfold startBitWake
  split
  · exact signalWake_pending _ _ _
  · rfl

theorem lrxLevel_pending (s : State) (x : Bool) : (lrxLevel s x).pending = s.pending := by
  unfold lrxLevel
  split
  · exact startBitWake_pending s
  · rfl

theorem lrxLevels_pending (l : LrxLevels) (s : State) : (l.foldl lrxLevel s).pending = s.pending := by
  induction l generalizing s with
  | nil => rfl
  | cons x l ih => exact (ih _).trans (lrxLevel_pending s x)

/-! ### Every row -/

/-- Settles O2: every arm of `exec` answers a next state, and each row's meaning leaves the queue alone; the rows that carry a
command frame are left to the port in one. -/
theorem everyCommandCompletes : Obligations.EveryCommandCompletes := by
  intro i s
  cases i <;> refine ⟨_, rfl, ?_⟩
  case tickBatch inp => exact tickBatch_pending inp s
  case por => exact beginReset_pending _ _
  case pinReset n => exact pinResetOn_pending n s
  case resetEnd => exact endReset_pending s
  case oscillatorStart => exact oscillatorStable_pending s
  case mainOscillatorStop => exact oscillatorStops_pending s
  case rejLength start bits => exact hostBits_pending start bits s
  case rejCrc start f => exact hostFrame_pending start f s
  case rejFormat start f => exact hostFrame_pending start f s
  case qualification n => exact inBatch_pending (qualifyLine_pending n s)
  case lineRelease n => exact inBatch_pending (releaseLine_pending n s)
  case heartbeatLate n => exact inBatch_pending (lateHeartbeat_pending n s)
  case silent n => exact inBatch_pending (silentNode_pending n s)
  case beaconTimer => exact inBatch_pending (beaconTimer_pending s)
  case intake => exact inBatch_pending (intakeOne_pending s)
  case windowEvaluation => exact inBatch_pending rfl
  case missingReference => exact inBatch_pending (missReference_pending s)
  case settleAllowanceEnd => exact inBatch_pending (compOne_pending _ _ _ s)
  case mismatchQualified => exact inBatch_pending (compOne_pending _ _ _ s)
  case mismatchWithdrawn => exact inBatch_pending (compOne_pending _ _ _ s)
  case exchange => exact inBatch_pending (exchangeNow_pending s)
  case closedPhaseEnd => exact inBatch_pending (closedEnds_pending s)
  case watchdogLate => exact inBatch_pending (openEnds_pending s)
  case nvOperationBegin => exact inBatch_pending ((only_nvBegin s).same .pending)
  case expiry => exact inStageD_pending ((only_stepExpiry s).same .pending)
  case ackDeadlineExpiry => exact inStageD_pending ((only_stepDeadline s).same .pending)
  case pulseStart => exact inStageD_pending ((only_stepPulseStart s).same .pending)
  case pulseEnd => exact inStageD_pending ((only_stepPulseEnd s).same .pending)
  case cut => exact inStageD_pending ((only_stepCut s).same .pending)
  case dwellEnd => exact inStageD_pending ((only_stepDwell s).same .pending)
  case epMinEnd => exact inStageD_pending ((only_stepEpMin s).same .pending)
  case automaticRelease => exact inStageD_pending ((only_stepAutoRelease s).same .pending)
  case selftestStepCompletion f n => exact inStageD_pending ((only_stepSelftest f n s).same .pending)
  case profileLoadCompletion => exact inStageD_pending (finishOp_pending _ s)
  case archiveWriteCompletion => exact inStageD_pending (finishOp_pending _ s)
  case archiveErasureCompletion => exact inStageD_pending (finishOp_pending _ s)
  case commitCompletion => exact inStageD_pending (finishOp_pending _ s)
  case unlockWindowExpiry => exact inStageD_pending ((only_stepUnlock s).same .pending)
  case sessionLimitExpiry => exact inStageD_pending ((only_stepSessionLimit s).same .pending)
  case wakeRequest => exact inStageD_pending ((only_stepWake s).same .pending)
  case wakingEnd => exact inStageD_pending ((only_stepWakingEnd s).same .pending)
  case peerEventMessage b0 b1 b2 b3 => exact lrxLevels_pending (b0 ++ b1 ++ b2 ++ b3) s
  case startBitWake => exact startBitWake_pending s
  case framingError => rfl
  case truncated => rfl
  case earlyRun => rfl
  case receiverReady => rfl
  case messageIntoFlight => rfl
  case messageLeavesFlight => rfl
  all_goals exact commandFrame_pending _ _ _ s

end Sys2Proof.Machine
end

section
/-!
PROOF. Stages B, C and D read neither nCRIT nor the read buffer: every operation they use commutes with a change of the two
(`setUnread`). So the recomputations of nCRIT between the rows of Stage D make no difference, and the read buffer stays.
-/

namespace Sys2Proof.Machine

set_option Elab.async false

/-- The state with other values of nCRIT and of the read buffer, the two items that the stages after Stage A never read. -/
def State.setUnread (c : Bool) (r : Option Rec) (s : State) : State :=
  { s with crit := c, jrn := { s.jrn with buf := r } }

section
variable (c : Bool) (r : Option Rec) (s : State)

/-! ### Fields -/

@[simp] theorem setUnread_clk : (s.setUnread c r).clk = s.clk := rfl
@[simp] theorem setUnread_ret : (s.setUnread c r).ret = s.ret := rfl
@[simp] theorem setUnread_link : (s.setUnread c r).link = s.link := rfl
@[simp] theorem setUnread_sup : (s.setUnread c r).sup = s.sup := rfl
@[simp] theorem setUnread_ack : (s.setUnread c r).ack = s.ack := rfl
@[simp] theorem setUnread_wd : (s.setUnread c r).wd = s.wd := rfl
@[simp] theorem setUnread_jrn : (s.setUnread c r).jrn = { s.jrn with buf := r } := rfl
@[simp] theorem setUnread_arch : (s.setUnread c r).arch = s.arch := rfl
@[simp] theorem setUnread_out : (s.setUnread c r).out = s.out := rfl
@[simp] theorem setUnread_prof : (s.setUnread c r).prof = s.prof := rfl
@[simp] theorem setUnread_nv : (s.setUnread c r).nv = s.nv := rfl
@[simp] theorem setUnread_st : (s.setUnread c r).st = s.st := rfl
@[simp] theorem setUnread_now : (s.setUnread c r).now = s.now := rfl

@[simp] theorem setClk_setUnread (x : Clock) : (s.setUnread c r).setClk x = (s.setClk x).setUnread c r := rfl
@[simp] theorem setRet_setUnread (x : Retained) : (s.setUnread c r).setRet x = (s.setRet x).setUnread c r := rfl
@[simp] theorem setLink_setUnread (x : Link) : (s.setUnread c r).setLink x = (s.setLink x).setUnread c r := rfl
@[simp] theorem setSup_setUnread (x : Supervisor) : (s.setUnread c r).setSup x = (s.setSup x).setUnread c r := rfl
@[simp] theorem setAck_setUnread (x : AckUnit) : (s.setUnread c r).setAck x = (s.setAck x).setUnread c r := rfl
@[simp] theorem setWd_setUnread (x : Watchdog) : (s.setUnread c r).setWd x = (s.setWd x).setUnread c r := rfl
@[simp] theorem setArch_setUnread (x : Archive) : (s.setUnread c r).setArch x = (s.setArch x).setUnread c r := rfl
@[simp] theorem setOut_setUnread (x : Outputs) : (s.setUnread c r).setOut x = (s.setOut x).setUnread c r := rfl
@[simp] theorem setProf_setUnread (x : ProfileStore) : (s.setUnread c r).setProf x = (s.setProf x).setUnread c r := rfl
@[simp] theorem setNv_setUnread (x : NvCtrl) : (s.setUnread c r).setNv x = (s.setNv x).setUnread c r := rfl
@[simp] theorem setSt_setUnread (x : SelfTest) : (s.setUnread c r).setSt x = (s.setSt x).setUnread c r := rfl

/-! ### Records and state changes -/

@[simp] theorem setUnread_ite (p : Prop) [Decidable p] (t u : State) :
    (if p then t else u).setUnread c r = if p then t.setUnread c r else u.setUnread c r := apply_ite _ p t u

/-- What becomes of a record does not depend on the read buffer (R130). -/
theorem appendRec_setBuf (p : JrnPolicy) (x : Rec) (j : Journal) :
    appendRec p x { j with buf := r } = { appendRec p x j with buf := r } := by
  unfold appendRec
  split
  · rfl
  · split
    · rfl
    · split <;> rfl

@[simp] theorem writeRec_setUnread (b : RecBody) : writeRec b (s.setUnread c r) = (writeRec b s).setUnread c r := by
  have h : (newRec (s.setUnread c r) b) = newRec s b := rfl
  simp only [writeRec, h, setUnread_jrn, setUnread_prof, appendRec_setBuf]
  rfl

@[simp] theorem cancelUnlock_setUnread : cancelUnlock (s.setUnread c r) = (cancelUnlock s).setUnread c r := by
  unfold cancelUnlock
  rw [setUnread_prof]
  split <;> rfl

@[simp] theorem changeState_setUnread (x : SupState) :
    changeState x (s.setUnread c r) = (changeState x s).setUnread c r := by
  simp only [changeState, setUnread_sup, setSup_setUnread, writeRec_setUnread, cancelUnlock_setUnread]

@[simp] theorem planOf_setUnread : planOf (s.setUnread c r) = planOf s := rfl
@[simp] theorem sessionOpen_setUnread : sessionOpen (s.setUnread c r) = sessionOpen s := rfl
@[simp] theorem selftestRunning_setUnread : selftestRunning (s.setUnread c r) = selftestRunning s := rfl
@[simp] theorem drawBit_setUnread : drawBit (s.setUnread c r) = ((drawBit s).1, (drawBit s).2.setUnread c r) := rfl

/-! ### The NV Controller and the ends of a session -/

@[simp] theorem nvStart_setUnread (op : NvOp) : nvStart op (s.setUnread c r) = (nvStart op s).setUnread c r := by
  cases op <;> rfl

@[simp] theorem nvBegin_setUnread : nvBegin (s.setUnread c r) = (nvBegin s).setUnread c r := by
  unfold nvBegin
  rw [setUnread_nv]
  split
  · rw [setNv_setUnread, nvStart_setUnread]; rfl
  · rfl

@[simp] theorem nvRequest_setUnread (op : NvOp) : nvRequest op (s.setUnread c r) = (nvRequest op s).setUnread c r := by
  simp [nvRequest]

@[simp] theorem nvFinish_setUnread : nvFinish (s.setUnread c r) = (nvFinish s).setUnread c r := by
  simp [nvFinish]

@[simp] theorem cutCommit_setUnread (b : BankId) : cutCommit b (s.setUnread c r) = (cutCommit b s).setUnread c r := by
  simp [cutCommit]

@[simp] theorem nvDropCommit_setUnread : nvDropCommit (s.setUnread c r) = (nvDropCommit s).setUnread c r := by
  unfold nvDropCommit
  simp only [setUnread_nv, setNv_setUnread]
  split <;> simp

@[simp] theorem abandonCommit_setUnread : abandonCommit (s.setUnread c r) = (abandonCommit s).setUnread c r := by
  unfold abandonCommit
  simp only [setUnread_prof]
  split <;> simp

@[simp] theorem closeSession_setUnread : closeSession (s.setUnread c r) = (closeSession s).setUnread c r := rfl

@[simp] theorem abortSession_setUnread : abortSession (s.setUnread c r) = (abortSession s).setUnread c r := by
  unfold abortSession
  rw [sessionOpen_setUnread]
  split <;> simp

@[simp] theorem timeoutSession_setUnread : timeoutSession (s.setUnread c r) = (timeoutSession s).setUnread c r := by
  simp [timeoutSession]

/-! ### Episodes, plans and escalation -/

@[simp] theorem beginEpisode_setUnread (i : SrcId) :
    beginEpisode i (s.setUnread c r) = (beginEpisode i s).setUnread c r := rfl

@[simp] theorem endEpisode_setUnread : endEpisode (s.setUnread c r) = (endEpisode s).setUnread c r := rfl

@[simp] theorem dropAlarms_setUnread (g : Alarm → Bool) :
    dropAlarms g (s.setUnread c r) = (dropAlarms g s).setUnread c r := by
  by_cases h : s.sup.state = .alert ∧ s.sup.alarms ≠ [] ∧ s.sup.alarms.filter (fun x => !g x) = []
  · rw [dropAlarms_emptied h, dropAlarms_emptied (s := s.setUnread c r) h]
    simp
  · rw [dropAlarms_kept h, dropAlarms_kept (s := s.setUnread c r) h]
    simp

@[simp] theorem pulseBegin_setUnread (t : Tick) : pulseBegin t (s.setUnread c r) = (pulseBegin t s).setUnread c r := rfl

@[simp] theorem pulseOver_setUnread : pulseOver (s.setUnread c r) = (pulseOver s).setUnread c r := rfl

@[simp] theorem mergePlan_setUnread (n : Fin 8) : mergePlan n (s.setUnread c r) = (mergePlan n s).setUnread c r := rfl

@[simp] theorem createRequest_setUnread (q : Word) :
    createRequest q (s.setUnread c r) = (createRequest q s).setUnread c r := rfl

@[simp] theorem enterSafe_setUnread (n : Fin 8) (i : SrcId) :
    enterSafe n i (s.setUnread c r) = (enterSafe n i s).setUnread c r := by
  unfold enterSafe
  simp only [setUnread_sup, setUnread_jrn, setSup_setUnread, changeState_setUnread, mergePlan_setUnread]
  split <;> simp

@[simp] theorem enterLockdown_setUnread : enterLockdown (s.setUnread c r) = (enterLockdown s).setUnread c r := by
  have h (u : State) : lockdownEntry (u.setUnread c r) = lockdownEntry u := rfl
  simp [enterLockdown, h]

@[simp] theorem escalationPulse_setUnread : escalationPulse (s.setUnread c r) = (escalationPulse s).setUnread c r := by
  unfold escalationPulse
  simp only [setUnread_sup]
  split <;> simp

@[simp] theorem escalationAction_setUnread (l : BitVec 2) (q : Word) :
    escalationAction l q (s.setUnread c r) = (escalationAction l q s).setUnread c r := by
  unfold escalationAction
  split <;> simp

@[simp] theorem escalate_setUnread : escalate (s.setUnread c r) = (escalate s).setUnread c r := by
  simp [escalate]


/-! ### Dispatch and the effects of a CLEAR -/

@[simp] theorem abortSelftest_setUnread : abortSelftest (s.setUnread c r) = (abortSelftest s).setUnread c r := by
  unfold abortSelftest
  rw [selftestRunning_setUnread]
  split <;> rfl

@[simp] theorem episodeIfNormal_setUnread (i : SrcId) :
    episodeIfNormal i (s.setUnread c r) = (episodeIfNormal i s).setUnread c r := by
  unfold episodeIfNormal
  rw [setUnread_sup]
  split <;> rfl

@[simp] theorem dispatchAlarm_setUnread (o : Occ) :
    dispatchAlarm o (s.setUnread c r) = (dispatchAlarm o s).setUnread c r := by
  unfold dispatchAlarm
  simp only [episodeIfNormal_setUnread, writeRec_setUnread, setUnread_sup, setUnread_now, setSup_setUnread]
  split <;> simp

@[simp] theorem dispatchExhausted_setUnread (o : Occ) :
    dispatchExhausted o (s.setUnread c r) = (dispatchExhausted o s).setUnread c r := by
  simp [dispatchExhausted]

@[simp] theorem dispatchCritical_setUnread (o : Occ) :
    dispatchCritical o (s.setUnread c r) = (dispatchCritical o s).setUnread c r := by
  simp [dispatchCritical]

@[simp] theorem dispatchCalm_setUnread (o : Occ) :
    dispatchCalm o (s.setUnread c r) = (dispatchCalm o s).setUnread c r := by
  unfold dispatchCalm
  split
  · simp
  · rw [setUnread_sup]
    split <;> simp
  · simp

@[simp] theorem dispatchMerge_setUnread (o : Occ) :
    dispatchMerge o (s.setUnread c r) = (dispatchMerge o s).setUnread c r := by
  have hm (u : State) : mergeRequests o (s.setUnread c r) (u.setUnread c r) = mergeRequests o s u := rfl
  have hc : compoundFault (s.setUnread c r) = compoundFault s := rfl
  unfold dispatchMerge
  simp only [writeRec_setUnread, mergePlan_setUnread, hm, hc, setUnread_jrn]
  split <;> split <;> simp

@[simp] theorem dispatchSafe_setUnread (o : Occ) :
    dispatchSafe o (s.setUnread c r) = (dispatchSafe o s).setUnread c r := by
  unfold dispatchSafe
  split <;> simp

@[simp] theorem dispatch_setUnread (o : Occ) : dispatch o (s.setUnread c r) = (dispatch o s).setUnread c r := by
  unfold dispatch
  rw [setUnread_sup]
  split <;> simp

@[simp] theorem clearEffects_setUnread (i : SrcId) :
    clearEffects i (s.setUnread c r) = (clearEffects i s).setUnread c r := by
  simp [clearEffects, dropAlarmOf]

/-! ### Stage D, categories 1 to 7 -/

@[simp] theorem stepExpiry_setUnread : stepExpiry (s.setUnread c r) = (stepExpiry s).setUnread c r := by
  unfold stepExpiry
  simp only [setUnread_sup, setUnread_now]
  split
  · rfl
  · simp

@[simp] theorem stepDeadline_setUnread : stepDeadline (s.setUnread c r) = (stepDeadline s).setUnread c r := by
  have h : deadlineDue (s.setUnread c r) = deadlineDue s := rfl
  unfold stepDeadline
  simp only [setUnread_sup, h]
  split <;> simp

@[simp] theorem stepPulseStart_setUnread : stepPulseStart (s.setUnread c r) = (stepPulseStart s).setUnread c r := by
  unfold stepPulseStart
  rw [setUnread_sup]
  split
  · rw [setUnread_ite]
    exact if_congr Iff.rfl rfl rfl
  · rfl
  · rfl

@[simp] theorem stepPulseEnd_setUnread : stepPulseEnd (s.setUnread c r) = (stepPulseEnd s).setUnread c r := by
  unfold stepPulseEnd
  rw [setUnread_sup]
  split
  · rw [setUnread_ite]
    exact if_congr Iff.rfl rfl rfl
  · rfl
  · rfl

@[simp] theorem stepCut_setUnread : stepCut (s.setUnread c r) = (stepCut s).setUnread c r := by
  unfold stepCut
  rw [setUnread_sup]
  split
  · rw [setUnread_ite]
    exact if_congr Iff.rfl rfl rfl
  · rfl
  · rfl

@[simp] theorem stepDwell_setUnread : stepDwell (s.setUnread c r) = (stepDwell s).setUnread c r := by
  unfold stepDwell
  rw [setUnread_sup]
  split
  · rfl
  · rw [setUnread_ite]
    exact if_congr Iff.rfl rfl rfl

@[simp] theorem stepEpMin_setUnread : stepEpMin (s.setUnread c r) = (stepEpMin s).setUnread c r := by
  unfold stepEpMin
  rw [setUnread_out]
  split
  · rfl
  · rw [setUnread_ite]
    exact if_congr Iff.rfl rfl rfl

@[simp] theorem release_setUnread : release (s.setUnread c r) = (release s).setUnread c r := by
  simp [release]

@[simp] theorem stepAutoRelease_setUnread :
    stepAutoRelease (s.setUnread c r) = (stepAutoRelease s).setUnread c r := by
  have h : releaseBlock (s.setUnread c r) = releaseBlock s := rfl
  unfold stepAutoRelease
  simp only [setUnread_sup, h]
  split <;> simp

/-! ### Stage D, categories 8 and 9 -/

@[simp] theorem armHeartbeats_setUnread : armHeartbeats (s.setUnread c r) = (armHeartbeats s).setUnread c r := rfl

@[simp] theorem startWatchdog_setUnread : startWatchdog (s.setUnread c r) = (startWatchdog s).setUnread c r := rfl


@[simp] theorem latchProfile_setUnread : latchProfile (s.setUnread c r) = (latchProfile s).setUnread c r := by
  unfold latchProfile
  rw [setUnread_prof]
  split <;> rfl

@[simp] theorem latchSelftest_setUnread : latchSelftest (s.setUnread c r) = (latchSelftest s).setUnread c r := by
  unfold latchSelftest
  rw [setUnread_st]
  split <;> rfl

@[simp] theorem endInitSafe_setUnread : endInitSafe (s.setUnread c r) = (endInitSafe s).setUnread c r := by
  have h : bootCause (s.setUnread c r) = bootCause s := rfl
  simp [endInitSafe, h]

@[simp] theorem finishInit_setUnread : finishInit (s.setUnread c r) = (finishInit s).setUnread c r := rfl

@[simp] theorem endInit_setUnread : endInit (s.setUnread c r) = (endInit s).setUnread c r := by
  unfold endInit
  simp

@[simp] theorem afterRun_setUnread : afterRun (s.setUnread c r) = (afterRun s).setUnread c r := by
  unfold afterRun
  rw [setUnread_sup, setUnread_clk]
  split <;> simp

/-- The shadow supervisor has a journal of its own (R169). -/
theorem shadow_setUnread : shadow (s.setUnread c r) = (shadow s).setUnread c none := rfl

theorem shadowPasses_setUnread : shadowPasses (s.setUnread c r) = shadowPasses s := by
  simp [shadowPasses, shadow_setUnread]

theorem selftestPasses_setUnread (n : Nat) (f : BitVec 8) (p : Nat) :
    selftestPasses n f p (s.setUnread c r) = selftestPasses n f p s := by
  unfold selftestPasses
  split
  case h_3 => exact shadowPasses_setUnread c r s
  all_goals rfl

@[simp] theorem completeSelftest_setUnread (n : Nat) (f : BitVec 8) (p : Nat) :
    completeSelftest n f p (s.setUnread c r) = (completeSelftest n f p s).setUnread c r := by
  unfold completeSelftest
  rw [selftestPasses_setUnread]
  split
  · simp
  · simp

@[simp] theorem stepSelftest_setUnread (f : BitVec 8) (p : Nat) :
    stepSelftest f p (s.setUnread c r) = (stepSelftest f p s).setUnread c r := by
  unfold stepSelftest
  rw [setUnread_st, setUnread_now]
  split
  · simp
  all_goals rfl

@[simp] theorem stepInitBegin_setUnread : stepInitBegin (s.setUnread c r) = (stepInitBegin s).setUnread c r := by
  unfold stepInitBegin
  rw [setUnread_sup, setUnread_clk]
  split <;> simp

@[simp] theorem completeLoad_setUnread : completeLoad (s.setUnread c r) = (completeLoad s).setUnread c r := by
  have h (u : State) : initEntry (u.setUnread c r) = initEntry u := rfl
  unfold completeLoad
  simp only [setUnread_prof, setProf_setUnread, nvFinish_setUnread, setUnread_sup, setUnread_clk]
  split <;> simp [h]

@[simp] theorem startSelftest_setUnread : startSelftest (s.setUnread c r) = (startSelftest s).setUnread c r := rfl

@[simp] theorem afterArchive_setUnread : afterArchive (s.setUnread c r) = (afterArchive s).setUnread c r := by
  unfold afterArchive
  rw [setUnread_ret, setUnread_prof]
  split <;> simp

@[simp] theorem completeArchWrite_setUnread (e : ArchEntry) :
    completeArchWrite e (s.setUnread c r) = (completeArchWrite e s).setUnread c r := by
  unfold completeArchWrite
  simp only [setUnread_arch, setArch_setUnread, nvFinish_setUnread, setUnread_sup, setUnread_clk]
  split <;> simp

@[simp] theorem completeErase_setUnread : completeErase (s.setUnread c r) = (completeErase s).setUnread c r := by
  simp [completeErase]

@[simp] theorem completeCommit_setUnread (b : BankId) (g : Word) (p : Profile) :
    completeCommit b g p (s.setUnread c r) = (completeCommit b g p s).setUnread c r := by
  simp [completeCommit]

@[simp] theorem completeNv_setUnread : completeNv (s.setUnread c r) = (completeNv s).setUnread c r := by
  unfold completeNv
  rw [setUnread_nv]
  split <;> simp

@[simp] theorem stepNv_setUnread (d : Bool) : stepNv d (s.setUnread c r) = (stepNv d s).setUnread c r := by
  unfold stepNv
  rw [setUnread_nv, setUnread_now]
  split
  · rfl
  · simp

@[simp] theorem stepUnlock_setUnread : stepUnlock (s.setUnread c r) = (stepUnlock s).setUnread c r := by
  unfold stepUnlock
  rw [setUnread_prof, setUnread_now]
  split
  · simp
  · rfl
  · rfl

@[simp] theorem stepSessionLimit_setUnread :
    stepSessionLimit (s.setUnread c r) = (stepSessionLimit s).setUnread c r := by
  unfold stepSessionLimit
  rw [setUnread_prof, setUnread_now]
  split
  · simp
  · rfl
  · rfl

@[simp] theorem beginWaking_setUnread : beginWaking (s.setUnread c r) = (beginWaking s).setUnread c r := by
  simp [beginWaking]

@[simp] theorem stepWake_setUnread : stepWake (s.setUnread c r) = (stepWake s).setUnread c r := by
  unfold stepWake
  rw [setUnread_sup, setUnread_clk]
  split <;> simp

@[simp] theorem endWaking_setUnread : endWaking (s.setUnread c r) = (endWaking s).setUnread c r := by
  simp [endWaking]

@[simp] theorem stepWakingEnd_setUnread : stepWakingEnd (s.setUnread c r) = (stepWakingEnd s).setUnread c r := by
  unfold stepWakingEnd
  rw [setUnread_sup, setUnread_clk, setUnread_now]
  split
  · rfl
  · simp
end

end Sys2Proof.Machine
end

section
/-!
PROOF. Stage D as its rows: rows performed one after the other are the steps of the stage, whose clock unit keeps its tick counter
and phase.
-/

namespace Sys2Proof.Machine

set_option Elab.async false

/-- `f` neither reads nor writes nCRIT and the read buffer. -/
def Indifferent (f : State → State) : Prop := ∀ c r s, f (s.setUnread c r) = (f s).setUnread c r

theorem Indifferent.buf {f : State → State} (h : Indifferent f) (s : State) : (f s).jrn.buf = s.jrn.buf := by
  have e : f s = (f s).setUnread s.crit s.jrn.buf := h s.crit s.jrn.buf s
  exact (congrArg (fun u : State => u.jrn.buf) e).trans rfl

theorem refreshCrit_clk (s : State) : (refreshCrit s).clk = s.clk := rfl

theorem refreshCrit_jrn (s : State) : (refreshCrit s).jrn = s.jrn := rfl

theorem refreshCrit_eq_setUnread (s : State) : refreshCrit s = s.setUnread (critNow s) s.jrn.buf := rfl

theorem refreshCrit_setUnread (c : Bool) (s : State) : refreshCrit (s.setUnread c s.jrn.buf) = refreshCrit s := rfl

/-- An earlier recomputation of nCRIT makes no difference to the one at the end of the stage (R114). -/
theorem Indifferent.refreshCrit {f : State → State} (h : Indifferent f) (s : State) :
    refreshCrit (f (refreshCrit s)) = refreshCrit (f s) := by
  rw [refreshCrit_eq_setUnread s, h, ← h.buf s, refreshCrit_setUnread]

theorem Indifferent.comp {f g : State → State} (hg : Indifferent g) (hf : Indifferent f) :
    Indifferent (fun s => g (f s)) := fun c r s => (congrArg g (hf c r s)).trans (hg c r (f s))

theorem Indifferent.foldl {α : Type} {f : State → α → State} (h : ∀ a, Indifferent (fun s => f s a)) (l : List α) :
    Indifferent (fun s => l.foldl f s) := by
  intro c r s
  induction l generalizing s with
  | nil => rfl
  | cons a l ih => exact (congrArg (l.foldl f) (h a c r s)).trans (ih (f s a))

/-! ### The clock unit under Stage D -/

/-- The tick counter and the phase of the clock unit are as they were. -/
def clockKept (s t : State) : Prop := t.clk.tick = s.clk.tick ∧ t.clk.phase = s.clk.phase

theorem clockKept.refl (s : State) : clockKept s s := ⟨rfl, rfl⟩

theorem clockKept.trans {s t u : State} (h1 : clockKept s t) (h2 : clockKept t u) : clockKept s u :=
  ⟨h2.1.trans h1.1, h2.2.trans h1.2⟩

theorem clockKept_of_clk {s t : State} (h : t.clk = s.clk) : clockKept s t := by
  unfold clockKept
  rw [h]
  exact ⟨rfl, rfl⟩

theorem clockKept.ite {s t u : State} (p : Prop) [Decidable p] (h1 : clockKept s t) (h2 : clockKept s u) :
    clockKept s (if p then t else u) := by
  split
  · exact h1
  · exact h2

theorem endInitSafe_clk (s : State) : (endInitSafe s).clk = s.clk := by
  have hs (n : Fin 8) (i : SrcId) (u : State) : (enterSafe n i u).clk = u.clk := (only_enterSafe n i u).same .clk
  have hl (u : State) : (latchSelftest u).clk = u.clk := (only_latchSelftest u).same .clk
  have hp (u : State) : (latchProfile u).clk = u.clk := (only_latchProfile u).same .clk
  simp [endInitSafe, startWatchdog, beginEpisode, hs, hl, hp]

/-- The end of INIT moves nothing of the clock but its step (R167). -/
theorem endInit_clk (s : State) : (endInit s).clk = { s.clk with initStep := .done } := by
  unfold endInit
  simp only []
  split
  · exact changeState_clk _ _
  · split
    · exact endInitSafe_clk _
    · exact changeState_clk _ _

theorem clockKept_afterRun (s : State) : clockKept s (afterRun s) := by
  refine .ite _ ?_ (.refl s)
  rw [clockKept, endInit_clk]
  exact ⟨rfl, rfl⟩

theorem clockKept_stepSelftest (f : BitVec 8) (n : Nat) (s : State) : clockKept s (stepSelftest f n s) := by
  unfold stepSelftest completeSelftest
  split
  · exact .ite _ (.ite _ (clockKept_afterRun _) (.ite _ (clockKept_afterRun _) (.refl s))) (.refl s)
  all_goals exact .refl s

theorem nvFinish_clk (s : State) : (nvFinish s).clk = s.clk := (only_nvFinish s).same .clk

theorem nvRequest_clk (op : NvOp) (s : State) : (nvRequest op s).clk = s.clk := (only_nvRequest op s).same .clk

theorem clockKept_stepInitBegin (s : State) : clockKept s (stepInitBegin s) := by
  refine .ite _ ?_ (.refl s)
  rw [clockKept, nvRequest_clk]
  exact ⟨rfl, rfl⟩

theorem clockKept_completeLoad (s : State) : clockKept s (completeLoad s) := by
  have h (u : State) (e : ArchEntry) :
      clockKept u (nvRequest (.archWrite e) (u.setClk { u.clk with initStep := .archive })) := by
    rw [clockKept, nvRequest_clk]
    exact ⟨rfl, rfl⟩
  exact (clockKept_of_clk (nvFinish_clk (s.setProf (loadBanks s.prof)))).trans (.ite _ (h _ _) (.refl _))

theorem clockKept_afterArchive (s : State) : clockKept s (afterArchive s) := by
  refine .ite _ ⟨rfl, rfl⟩ ?_
  rw [clockKept, endInit_clk]
  exact ⟨rfl, rfl⟩

theorem clockKept_completeArchWrite (e : ArchEntry) (s : State) : clockKept s (completeArchWrite e s) := by
  have h (u : State) : clockKept u (afterArchive (u.setArch (archSnapshot 0 u.arch))) :=
    (clockKept_of_clk (setArch_clk _ _)).trans (clockKept_afterArchive _)
  exact (clockKept_of_clk (nvFinish_clk (s.setArch (archStore e s.arch)))).trans (.ite _ (h _) (.refl _))

theorem clockKept_completeNv (s : State) : clockKept s (completeNv s) := by
  unfold completeNv
  split
  · exact .refl s
  · exact clockKept_completeLoad s
  · exact clockKept_completeArchWrite _ s
  · exact clockKept_of_clk ((only_completeErase s).same .clk)
  · exact clockKept_of_clk ((only_completeCommit _ _ _ s).same .clk)

theorem clockKept_stepNv (done : Bool) (s : State) : clockKept s (stepNv done s) := by
  unfold stepNv
  split
  · exact .refl s
  · exact .ite _ (clockKept_completeNv s) (.refl s)

theorem clockKept_stepWake (s : State) : clockKept s (stepWake s) := by
  have h : clockKept s (beginWaking s) := by simp [clockKept, beginWaking]
  exact .ite _ h (.refl s)

theorem clockKept_stepWakingEnd (s : State) : clockKept s (stepWakingEnd s) := by
  have h : clockKept s (endWaking s) := by simp [clockKept, endWaking, armHeartbeats]
  unfold stepWakingEnd
  split
  · exact .refl s
  · exact .ite _ h (.refl s)

/-! ### Rows of Stage D performed one after the other -/

/-- Row `i` is the step `f` of Stage D followed by the recomputation of nCRIT (log 4), and `f` makes nothing of an earlier
recomputation. -/
structure StageDRow (i : Instr) (f : State → State) : Prop where
  exec_eq : ∀ s, exec i s = .next (inStageD f s)
  indifferent : Indifferent f
  clock : ∀ s, clockKept s (f s)

theorem indifferent_rowSteps {rows : List Instr} {fs : List (State → State)} (h : List.Forall₂ StageDRow rows fs) :
    Indifferent (runSteps fs) := by
  induction h with
  | nil => exact fun _ _ _ => rfl
  | cons hf _ ih => exact ih.comp hf.indifferent

theorem clockKept_rowSteps {rows : List Instr} {fs : List (State → State)} (h : List.Forall₂ StageDRow rows fs)
    (s : State) : clockKept s (runSteps fs s) := by
  induction h generalizing s with
  | nil => exact .refl s
  | cons hf _ ih => exact (hf.clock s).trans (ih _)

theorem performed_cons {i : Instr} {f : State → State} (h : StageDRow i f) (is : List Instr) {s : State}
    (hr : s.clk.phase = .running) : performed (i :: is) s = performed is (refreshCrit (f s)) := by
  simp [performed, h.exec_eq, inStageD, inBatch, ticking, hr]

/-- Rows that start from a recomputed nCRIT: the recomputations between them fall away (R114). -/
theorem performed_refreshed {rows : List Instr} {fs : List (State → State)} (h : List.Forall₂ StageDRow rows fs) {s : State}
    (hr : s.clk.phase = .running) : performed rows (refreshCrit s) = refreshCrit (runSteps fs s) := by
  induction h generalizing s with
  | nil => rfl
  | cons hf _ ih =>
    rw [performed_cons (s := refreshCrit s) hf _ hr, hf.indifferent.refreshCrit]
    exact ih ((hf.clock s).2.trans hr)

/-- Rows of Stage D performed one after the other are their steps, with nCRIT recomputed once at the end (R114). -/
theorem performed_eq_runSteps {rows : List Instr} {fs : List (State → State)} (h : List.Forall₂ StageDRow rows fs)
    (hne : rows ≠ []) {s : State} (hr : s.clk.phase = .running) :
    performed rows s = refreshCrit (runSteps fs s) := by
  cases h with
  | nil => exact absurd rfl hne
  | cons hf hfs => exact (performed_cons hf _ hr).trans (performed_refreshed hfs ((hf.clock s).2.trans hr))

/-! ### The rows and the steps of Stage D -/

/-- The steps of categories 1 to 7, a step for each of `safetyRows` (R72). -/
def safetyRowSteps (x : SupState) : List (State → State) :=
  [stepExpiry, stepDeadline, stepPulseEnd, stepPulseStart, stepCut, stepDwell, stepEpMin] ++
    if x = .safe then [stepAutoRelease] else []

theorem runSteps_append (fs gs : List (State → State)) (s : State) :
    runSteps (fs ++ gs) s = runSteps gs (runSteps fs s) := List.foldl_append

theorem runSteps_safetySteps (x : SupState) (s : State) :
    runSteps (safetySteps x) s = runSteps (if awake x then safetyRowSteps x else []) s := by
  cases x <;> rfl

/-- A step that by its frame leaves the clock unit alone. -/
theorem stageDRow_of_frame {l : List Part} {i : Instr} {f : State → State} (he : ∀ s, exec i s = .next (inStageD f s))
    (hi : Indifferent f) (ho : ∀ s, onlyParts l s (f s)) (hl : decide (Part.clk ∈ l) = false := by decide) :
    StageDRow i f := ⟨he, hi, fun s => clockKept_of_clk ((ho s).same .clk hl)⟩

/-- Categories 1 to 7, row by row (R72). -/
theorem safetyRows_steps (x : SupState) : List.Forall₂ StageDRow (safetyRows x) (safetyRowSteps x) := by
  have he : StageDRow .expiry stepExpiry :=
    stageDRow_of_frame (fun _ => rfl) (fun c r s => stepExpiry_setUnread c r s) only_stepExpiry
  have ha : StageDRow .ackDeadlineExpiry stepDeadline :=
    stageDRow_of_frame (fun _ => rfl) (fun c r s => stepDeadline_setUnread c r s) only_stepDeadline
  have hpe : StageDRow .pulseEnd stepPulseEnd :=
    stageDRow_of_frame (fun _ => rfl) (fun c r s => stepPulseEnd_setUnread c r s) only_stepPulseEnd
  have hps : StageDRow .pulseStart stepPulseStart :=
    stageDRow_of_frame (fun _ => rfl) (fun c r s => stepPulseStart_setUnread c r s) only_stepPulseStart
  have hc : StageDRow .cut stepCut :=
    stageDRow_of_frame (fun _ => rfl) (fun c r s => stepCut_setUnread c r s) only_stepCut
  have hd : StageDRow .dwellEnd stepDwell :=
    stageDRow_of_frame (fun _ => rfl) (fun c r s => stepDwell_setUnread c r s) only_stepDwell
  have hm : StageDRow .epMinEnd stepEpMin :=
    stageDRow_of_frame (fun _ => rfl) (fun c r s => stepEpMin_setUnread c r s) only_stepEpMin
  have hr : StageDRow .automaticRelease stepAutoRelease :=
    stageDRow_of_frame (fun _ => rfl) (fun c r s => stepAutoRelease_setUnread c r s) only_stepAutoRelease
  refine .cons he (.cons ha (.cons hpe (.cons hps (.cons hc (.cons hd (.cons hm ?_))))))
  show List.Forall₂ StageDRow (if x = .safe then [.automaticRelease] else []) (if x = .safe then [stepAutoRelease] else [])
  split
  · exact .cons hr .nil
  · exact .nil

theorem selftestRow (f : BitVec 8) (n : Nat) : StageDRow (.selftestStepCompletion f n) (stepSelftest f n) :=
  ⟨fun _ => rfl, fun c r s => stepSelftest_setUnread c r s f n, clockKept_stepSelftest f n⟩

/-- The steps of category 8 but the self-test and of category 9 but the NV Controller. -/
def lateSteps : List (State → State) := [stepWake, stepWakingEnd, stepUnlock, stepSessionLimit]

/-- The steps before the profile load of INIT can begin. -/
def earlySteps (x : SupState) (inp : TickInputs) : List (State → State) :=
  (if awake x then safetyRowSteps x else []) ++ [stepSelftest inp.compFault inp.refPeriods]

theorem earlyRows_steps (x : SupState) (inp : TickInputs) :
    List.Forall₂ StageDRow
      ((if awake x then safetyRows x else []) ++ [.selftestStepCompletion inp.compFault inp.refPeriods])
      (earlySteps x inp) := by
  refine List.rel_append ?_ (.cons (selftestRow _ _) .nil)
  split
  · exact safetyRows_steps x
  · exact .nil

theorem lateRows_steps :
    List.Forall₂ StageDRow [.wakeRequest, .wakingEnd, .unlockWindowExpiry, .sessionLimitExpiry] lateSteps := by
  have hw : StageDRow .wakeRequest stepWake :=
    ⟨fun _ => rfl, fun c r s => stepWake_setUnread c r s, clockKept_stepWake⟩
  have he : StageDRow .wakingEnd stepWakingEnd :=
    ⟨fun _ => rfl, fun c r s => stepWakingEnd_setUnread c r s, clockKept_stepWakingEnd⟩
  have hu : StageDRow .unlockWindowExpiry stepUnlock :=
    stageDRow_of_frame (fun _ => rfl) (fun c r s => stepUnlock_setUnread c r s) only_stepUnlock
  have hl : StageDRow .sessionLimitExpiry stepSessionLimit :=
    stageDRow_of_frame (fun _ => rfl) (fun c r s => stepSessionLimit_setUnread c r s) only_stepSessionLimit
  exact .cons hw (.cons he (.cons hu (.cons hl .nil)))

theorem stepNv_idle {done : Bool} {s : State} (h : s.nv.cur = none) : stepNv done s = s := by
  simp [stepNv, h]

theorem stepNv_busy {done : Bool} {s : State} {op : NvOp} {k : Tick} (h : s.nv.cur = some (op, k)) :
    stepNv done s = if nvReady op k s.now done then completeNv s else s := by
  simp [stepNv, h]

/-- What may complete in a batch may complete by its row, which takes the work for done (log 6). -/
theorem nvReady_done {op : NvOp} {k now : Tick} {done : Bool} (h : nvReady op k now done = true) :
    nvReady op k now true = true := by
  cases done with
  | true => exact h
  | false =>
    have hmax : decide (nvMaxTicks op ≤ (now - k).toNat) = true := by
      simpa only [nvReady, Bool.false_and, Bool.false_or] using h
    rw [nvReady, hmax, Bool.or_true]

/-- The completion row of the operation in progress completes it when it may complete. -/
theorem performed_completionRow {op : NvOp} {k : Tick} {done : Bool} {s : State} (hr : s.clk.phase = .running)
    (hc : s.nv.cur = some (op, k)) (hy : nvReady op k s.now done = true) :
    performed [completionRow op] s = refreshCrit (completeNv s) := by
  have hn : stepNv true s = completeNv s := by rw [stepNv_busy hc, if_pos (nvReady_done hy)]
  have hf {wanted : NvOp → Bool} (hw : wanted op = true) : inStageD (finishOp wanted) s = refreshCrit (completeNv s) := by
    simp [inStageD, inBatch, ticking, hr, finishOp, hc, hw, hn]
  cases op with
  | load => exact hf (wanted := isLoad) rfl
  | archWrite e => exact hf (wanted := isArchWrite) rfl
  | erase => exact hf (wanted := isErase) rfl
  | commit b g p => exact hf (wanted := isCommit) rfl

/-- The steps of Stage D, with the beginning of the profile load and the NV Controller apart (R72; logs 6, 22). -/
theorem runSteps_timerSteps (x : SupState) (inp : TickInputs) (s : State) :
    runSteps (timerSteps x inp) s =
      stepNv inp.nvDone (runSteps lateSteps (stepInitBegin (runSteps (earlySteps x inp) s))) := by
  rw [timerSteps, runSteps_append, runSteps_safetySteps, earlySteps, runSteps_append]
  rfl

/-- Stage D up to the NV Controller's step. -/
def beforeNv (x : SupState) (inp : TickInputs) (s : State) : State :=
  runSteps lateSteps (stepInitBegin (runSteps (earlySteps x inp) s))

theorem stageD_eq (x : SupState) (inp : TickInputs) (s : State) :
    stageD x inp s = refreshCrit (stepNv inp.nvDone (beforeNv x inp s)) :=
  congrArg refreshCrit (runSteps_timerSteps x inp s)

theorem clockKept_beforeNv (x : SupState) (inp : TickInputs) (s : State) : clockKept s (beforeNv x inp s) :=
  ((clockKept_rowSteps (earlyRows_steps x inp) s).trans (clockKept_stepInitBegin _)).trans
    (clockKept_rowSteps lateRows_steps _)

theorem clockKept_stageD (x : SupState) (inp : TickInputs) (s : State) : clockKept s (stageD x inp s) := by
  rw [stageD_eq]
  exact (clockKept_beforeNv x inp s).trans ((clockKept_stepNv inp.nvDone _).trans (clockKept_of_clk (refreshCrit_clk _)))

theorem indifferent_lateSteps : Indifferent (fun s => runSteps lateSteps (stepInitBegin s)) :=
  (indifferent_rowSteps lateRows_steps).comp (fun c r s => stepInitBegin_setUnread c r s)

/-- Stage D leaves the read buffer alone (R133). -/
theorem stageD_buf (x : SupState) (inp : TickInputs) (s : State) : (stageD x inp s).jrn.buf = s.jrn.buf := by
  have hn : Indifferent (stepNv inp.nvDone) := fun c r s => stepNv_setUnread c r s inp.nvDone
  have hb : Indifferent (beforeNv x inp) := indifferent_lateSteps.comp (indifferent_rowSteps (earlyRows_steps x inp))
  rw [stageD_eq, refreshCrit_jrn, hn.buf, hb.buf]

/-- The last step of Stage D, the NV Controller's, as a row (R72; log 6). -/
theorem stepNv_row (done : Bool) {u : State} (hr : u.clk.phase = .running) :
    (u.nv.cur = none → refreshCrit (stepNv done u) = refreshCrit u) ∧
      ∀ op k, u.nv.cur = some (op, k) →
        refreshCrit (stepNv done u) =
          if nvReady op k u.now done then performed [completionRow op] (refreshCrit u) else refreshCrit u := by
  refine ⟨fun h => by rw [stepNv_idle h], fun op k h => ?_⟩
  rw [stepNv_busy h]
  split
  · rename_i hy
    have hi : Indifferent completeNv := fun c r s => completeNv_setUnread c r s
    rw [performed_completionRow (s := refreshCrit u) hr h hy, hi.refreshCrit]
  · rfl

/-- Stage D is its rows one after the other (R72). -/
theorem stageD_runs (x : SupState) (inp : TickInputs) {s : State} (hr : s.clk.phase = .running) :
    stageDRuns x inp s (stageD x inp s) := by
  have early := performed_eq_runSteps (earlyRows_steps x inp) (by simp) hr
  have h1 := (clockKept_rowSteps (earlyRows_steps x inp) s).2.trans hr
  have hb := (clockKept_beforeNv x inp s).2.trans hr
  have hi : beforeNv x inp s = runSteps lateSteps (stepInitBegin (runSteps (earlySteps x inp) s)) := rfl
  have hd := stageD_eq x inp s
  generalize beforeNv x inp s = u at hb hi hd
  generalize runSteps (earlySteps x inp) s = v at early h1 hi
  refine ⟨refreshCrit v, stepInitBegin (refreshCrit v), refreshCrit u, early.symm, rfl, ?_, ?_⟩
  · have h2 : (stepInitBegin (refreshCrit v)).clk.phase = .running := (clockKept_stepInitBegin _).2.trans h1
    rw [performed_eq_runSteps lateRows_steps (by simp) h2, hi]
    exact (indifferent_lateSteps.refreshCrit v).symm
  · rw [hd]
    exact stepNv_row inp.nvDone hb

end Sys2Proof.Machine
end

section
/-!
PROOF. The batch: what Stages B to F leave of the clock, the port and the read buffer, what agrees after Stages E and F, and from
these and the laws of the single stages the statement over a whole batch.
-/

namespace Sys2Proof.Machine

set_option Elab.async false

/-- Stage B leaves the read buffer alone (R133). -/
theorem stageB_buf (s : State) : (stageB s).1.jrn.buf = s.jrn.buf := by
  obtain ⟨src, -, -, hb, -⟩ := stageB_runs s
  have hc : Indifferent (fun u => List.foldl (fun u i => clearEffects i u) u
      ((List.finRange 56).filter (fun i => (srcStep (vget s.prof.running.desc i) (vget s.src i)).2 == .clear))) :=
    Indifferent.foldl (fun i c r u => clearEffects_setUnread c r u i) _
  calc (stageB s).1.jrn.buf = _ := congrArg (fun u : State => u.jrn.buf) hb
    _ = s.jrn.buf := hc.buf (s.setSrc src)

/-- Stage C leaves the read buffer alone (R133). -/
theorem stageC_buf (occs : List Occ) (s : State) : (stageC occs s).jrn.buf = s.jrn.buf :=
  (Indifferent.foldl (f := fun u o => dispatch o u) (fun o c r u => dispatch_setUnread c r u o) (arbitrate occs)).buf s

theorem stageBC_awake {x : SupState} (h : awake x = true) (s : State) :
    stageBC x s = refreshCrit (stageC (stageB s).2 (stageB s).1) := if_pos h

theorem stageBC_asleep {x : SupState} (h : ¬ awake x = true) (s : State) : stageBC x s = s := if_neg h

theorem stageBC_buf (x : SupState) (s : State) : (stageBC x s).jrn.buf = s.jrn.buf := by
  by_cases h : awake x = true
  · rw [stageBC_awake h, refreshCrit_jrn, stageC_buf, stageB_buf]
  · rw [stageBC_asleep h]

theorem stageBC_clk (x : SupState) (s : State) : (stageBC x s).clk = s.clk := by
  have hb : (stageB s).1.clk = s.clk := (only_stageB s).same .clk
  have hc (os : List Occ) (u : State) : (stageC os u).clk = u.clk := (only_stageC os u).same .clk
  by_cases h : awake x = true
  · rw [stageBC_awake h, refreshCrit_clk, hc, hb]
  · rw [stageBC_asleep h]

/-- Stages B and C, where they run (R69). -/
theorem stageBC_runs (x : SupState) (a : State) :
    if awake x then ∃ b occs, stageBRuns a b occs ∧ stageCRuns occs b (stageBC x a) else stageBC x a = a := by
  split
  · rename_i h
    rw [stageBC_awake h]
    exact ⟨_, _, stageB_runs a, stageC_runs _ _⟩
  · rename_i h
    exact stageBC_asleep h a

theorem sufferDamage_fold_clk (l : List NvDamage) (s : State) : (l.foldl (fun u d => sufferDamage d u) s).clk = s.clk :=
  (onlyParts.foldl (fun s d => only_sufferDamage d s) l s).same .clk

theorem batchStart_clk (inp : TickInputs) (s : State) : (batchStart inp s).clk = { s.clk with tick := s.clk.tick + 1 } := by
  unfold batchStart advanceTick
  rw [setClk_clk, sufferDamage_fold_clk]

theorem batchStart_state (inp : TickInputs) (s : State) : (batchStart inp s).sup.state = s.sup.state :=
  congrArg Supervisor.state ((only_batchStart inp s).same .sup)

theorem batchStart_running (inp : TickInputs) {s : State} (h : s.clk.phase = .running) :
    (batchStart inp s).clk.phase = .running := by
  rw [batchStart_clk]
  exact h

/-- Stage F makes nATTN current, and keeps nCRIT so (R77, R114). -/
theorem stageF_flagsCurrent (x : SupState) {e : State} (h : e.crit = critNow e) : flagsCurrent (stageF x e) := by
  have ha : (stageF x e).attn = computeAttn e := rfl
  have hc : (stageF x e).crit = e.crit := (only_stageF x e).same .crit
  have hn : critNow (stageF x e) = critNow e := rfl
  refine ⟨?_, by rw [hc, h, hn]⟩
  rw [ha]
  exact (computeAttn_congr ((only_stageF x e).same .src) ((only_stageF x e).same .prof) ((only_stageF x e).same .jrn)).symm

/-- Stage A leaves the tick counter and the phase of the clock unit, and evaluates S45 (R18, R59). -/
theorem stageA_clock_port (inp : TickInputs) {s : State} (hr : s.clk.phase = .running) :
    clockKept s (stageA s.sup.state inp s) ∧
      (stageA s.sup.state inp s).port =
        { s.port with s45 := decide (4 ≤ s.port.consec.toNat), s45Detail := s.port.consec.setWidth 8 } := by
  obtain ⟨-, -, -, -, -, -, -, -, hclk, hport, -, -⟩ := stageA_runs inp s hr
  refine ⟨?_, hport⟩
  rw [clockKept, hclk]
  exact ⟨rfl, rfl⟩

/-- What Stages B to F leave of a batch's Stage A: the clock, the port and the read buffer. -/
structure LaterKept (a t : State) : Prop where
  clock : clockKept a t
  port : t.port = a.port
  buf : t.jrn.buf = a.jrn.buf

theorem laterKept_stages (x : SupState) (inp : TickInputs) (a : State) :
    LaterKept a (stageF x (stageE (stageD x inp (stageBC x a)))) := by
  have hout (e : State) : onlyParts [.out, .attn, .link] e (stageF x (stageE e)) :=
    (only_stageE e).mono.trans (only_stageF x _).mono
  have hmid : onlyParts midParts a (stageD x inp (stageBC x a)) := (only_stageBC x a).trans (only_stageD x inp _)
  have kd : clockKept a (stageD x inp (stageBC x a)) :=
    (clockKept_of_clk (stageBC_clk x a)).trans (clockKept_stageD x inp _)
  have bd : (stageD x inp (stageBC x a)).jrn.buf = a.jrn.buf := (stageD_buf x inp _).trans (stageBC_buf x a)
  generalize stageD x inp (stageBC x a) = d at *
  exact ⟨kd.trans (clockKept_of_clk ((hout _).same .clk)), ((hout _).same .port).trans (hmid.same .port),
    (congrArg Journal.buf ((hout _).same .jrn)).trans bd⟩

/-- After Stages E and F the levels, nATTN and nCRIT agree with the state (R77, R114, R140). -/
theorem outputs_agree (x : SupState) {d : State} (h : d.crit = critNow d) :
    (stageF x (stageE d)).out.level = commandedLevels (stageF x (stageE d)).prof.running.ep (stageF x (stageE d)).sup
        (stageF x (stageE d)).out.pair ∧ flagsCurrent (stageF x (stageE d)) :=
  ⟨rfl, stageF_flagsCurrent x h⟩

/-- A batch runs its stages in order (R1, R69 to R73). -/
theorem runStages_runs (inp : TickInputs) {s : State} (hr : s.clk.phase = .running) :
    batchRuns inp s (runStages s.sup.state inp (batchStart inp s)) := by
  have h0 := batchStart_running inp hr
  have ha := stageA_runs inp (batchStart inp s) h0
  have hk := (stageA_clock_port inp h0).1
  rw [batchStart_state] at ha hk
  have hc : (stageBC s.sup.state (stageA s.sup.state inp (batchStart inp s))).clk.phase = .running := by
    rw [stageBC_clk, hk.2, h0]
  exact ⟨_, _, _, _, ha, stageBC_runs _ _, stageD_runs _ inp hc, stageE_runs _, stageF_runs _ _⟩

theorem tickBatch_complete {inp : TickInputs} {s : State} (hr : s.clk.phase = .running) (hc : inp.cut = none) :
    tickBatch inp s = runStages s.sup.state inp (batchStart inp s) := by
  simp [tickBatch, ticking, hr, hc]

theorem tickBatch_notTicking {inp : TickInputs} {s : State} (h : s.clk.phase ≠ .running) : tickBatch inp s = s := by
  simp [tickBatch, ticking, h]

/-- Settles O6: a batch without a reset is its stages in order (`runStages_runs`); what stays and what agrees afterwards is read off
the frames of the stages. -/
theorem batchAdvancesAndReports : Obligations.BatchAdvancesAndReports := by
  refine ⟨fun inp s hr hcut => ?_, fun inp s hr => congrArg Host.Outcome.next (tickBatch_notTicking hr)⟩
  have hrun := tickBatch_complete hr hcut
  have hall := only_tickBatch hcut s
  rw [hrun] at hall
  obtain ⟨ka, pa⟩ := stageA_clock_port inp (batchStart_running inp hr)
  rw [batchStart_state] at ka pa
  have ja : (stageA s.sup.state inp (batchStart inp s)).jrn = (batchStart inp s).jrn := (only_stageA _ _ _).same .jrn
  have later := laterKept_stages s.sup.state inp (stageA s.sup.state inp (batchStart inp s))
  have hclock := ka.trans later.clock
  obtain ⟨hlevel, hflags⟩ := outputs_agree s.sup.state
    (d := stageD s.sup.state inp (stageBC s.sup.state (stageA s.sup.state inp (batchStart inp s)))) rfl
  refine ⟨_, congrArg Host.Outcome.next hrun, ?tick, ?phase, ?port, hall.same .sw, hall.same .sel, ?buf,
    hall.same .pending, hlevel, hflags, runStages_runs inp hr⟩
  case tick => exact hclock.1.trans (congrArg Clock.tick (batchStart_clk inp s))
  case phase => exact hclock.2.trans (batchStart_running inp hr)
  case port =>
    have hp : (batchStart inp s).port = s.port := (only_batchStart inp s).same .port
    exact later.port.trans (hp ▸ pa)
  case buf =>
    have hj : (batchStart inp s).jrn = s.jrn := (only_batchStart inp s).same .jrn
    exact later.buf.trans (congrArg Journal.buf (ja.trans hj))

end Sys2Proof.Machine
end

section
/-!
PROOF. The structural invariants but for the port's (`Sound`) under the operations of the journal, the sessions, the NV
Controller and the Supervisor.
-/

namespace Sys2Proof.Machine

set_option Elab.async false

/-! ### The invariants, part by part -/

/-- The invariants but for the port's. -/
structure Sound (s : State) : Prop where
  jrn : JrnInv s
  sup : SupInv s
  nv : NvInv s

/-- The clauses of `SupInv` that do not speak of the store (R78, R85, R86, R99). -/
def SupShape (s : State) : Prop :=
  s.sup.alarms.length ≤ alarmCap ∧ (s.sup.alarms ≠ [] ↔ s.sup.state = .alert) ∧
    (s.sup.state ≠ .safe →
      s.ack.req = none ∧ s.sup.dwell = none ∧ s.sup.hostReset = .idle ∧ s.sup.powerCut = .idle)

/-- A session is open only in a state that can hold one (R15). -/
def SessInv (s : State) : Prop :=
  sessionOpen s = true → s.sup.state = .normal ∨ s.sup.state = .alert ∨ s.sup.state = .safe

/-- A commit is outstanding only while its session is open (R161). -/
def CommitInv (s : State) : Prop := s.prof.commit = .busy → sessionOpen s = true

theorem supInv_iff (s : State) : SupInv s ↔ SupShape s ∧ SessInv s ∧ CommitInv s := by
  unfold SupInv SupShape SessInv CommitInv
  tauto

/-- The store is as it was as far as the invariants go: a session open or not, and the commit status. -/
def storeKept (s t : State) : Prop := sessionOpen t = sessionOpen s ∧ t.prof.commit = s.prof.commit

theorem storeKept.refl (s : State) : storeKept s s := ⟨rfl, rfl⟩

theorem storeKept.trans {s t u : State} (h1 : storeKept s t) (h2 : storeKept t u) : storeKept s u :=
  ⟨h2.1.trans h1.1, h2.2.trans h1.2⟩

/-- Whether a session is open is read off the store. -/
theorem sessionOpen_congr {s t : State} (h : t.prof.session = s.prof.session) : sessionOpen t = sessionOpen s := by
  unfold sessionOpen
  rw [h]

theorem storeKept_of_prof {s t : State} (h : t.prof = s.prof) : storeKept s t :=
  ⟨sessionOpen_congr (congrArg ProfileStore.session h), congrArg ProfileStore.commit h⟩

theorem CommitInv.congr {s t : State} (h : CommitInv s) (hp : storeKept s t) : CommitInv t := fun hb =>
  hp.1.trans (h (hp.2.symm.trans hb))

theorem SupShape.congr {s t : State} (h : SupShape s) (hs : t.sup = s.sup) (ha : t.ack.req = s.ack.req) : SupShape t := by
  unfold SupShape
  rw [hs, ha]
  exact h

theorem SupInv.congr {s t : State} (h : SupInv s) (hs : t.sup = s.sup) (ha : t.ack.req = s.ack.req)
    (hp : storeKept s t) : SupInv t := by
  obtain ⟨hshape, hsess, hcommit⟩ := (supInv_iff s).mp h
  refine (supInv_iff t).mpr ⟨hshape.congr hs ha, fun ho => ?_, hcommit.congr hp⟩
  rw [hs]
  exact hsess (hp.1.symm.trans ho)

theorem JrnInv.congr {s t : State} (h : JrnInv s) (e : t.jrn = s.jrn) : JrnInv t := by
  unfold JrnInv
  rw [e]
  exact h

theorem NvInv.congr {s t : State} (h : NvInv s) (e : t.nv = s.nv) : NvInv t := by
  unfold NvInv
  rw [e]
  exact h

/-- In SAFE the Alarm List is empty, and requests, dwell and actions are free (R86, R90). -/
theorem supInv_safe_iff {s : State} (h : s.sup.state = .safe) : SupInv s ↔ s.sup.alarms = [] ∧ CommitInv s := by
  have hsess : SessInv s := fun _ => .inr (.inr h)
  have hshape : SupShape s ↔ s.sup.alarms = [] := by
    constructor
    · rintro ⟨-, halarms, -⟩
      exact Classical.byContradiction fun hne => absurd (h.symm.trans (halarms.mp hne)) nofun
    · intro hempty
      simp [SupShape, h, hempty]
  rw [supInv_iff, hshape]
  exact ⟨fun ⟨hempty, _, hcommit⟩ => ⟨hempty, hcommit⟩, fun ⟨hempty, hcommit⟩ => ⟨hempty, hsess, hcommit⟩⟩

/-- A frame that lists none of the parts `kept` leaves each of them as it was. -/
theorem onlyParts.same_of_avoids {l kept : List Part} {s t : State} (h : onlyParts l s t)
    (hl : (l.all (fun p => decide (p ∉ kept))) = true) {p : Part} (hp : p ∈ kept) : samePart p s t :=
  h p fun hm => of_decide_eq_true (List.all_eq_true.mp hl p hm) hp

/-- A change of other parts leaves the invariants standing. -/
theorem Sound.of_only {l : List Part} {s t : State} (h : Sound s) (ho : onlyParts l s t)
    (hl : (l.all (fun p => decide (p ∉ ([.jrn, .sup, .ack, .prof, .nv] : List Part)))) = true := by decide) : Sound t := by
  have hj : t.jrn = s.jrn := ho.same_of_avoids hl (p := .jrn) (by simp)
  have hs : t.sup = s.sup := ho.same_of_avoids hl (p := .sup) (by simp)
  have ha : t.ack = s.ack := ho.same_of_avoids hl (p := .ack) (by simp)
  have hp : t.prof = s.prof := ho.same_of_avoids hl (p := .prof) (by simp)
  have hv : t.nv = s.nv := ho.same_of_avoids hl (p := .nv) (by simp)
  exact ⟨h.jrn.congr hj, h.sup.congr hs (congrArg AckUnit.req ha) (storeKept_of_prof hp), h.nv.congr hv⟩

/-- The journal and the controller are as they were, and the Supervisor's structure stands anew. -/
theorem Sound.withSup {l : List Part} {s t : State} (h : Sound s) (ho : onlyParts l s t) (hs : SupInv t)
    (hj : decide (Part.jrn ∈ l) = false := by decide) (hn : decide (Part.nv ∈ l) = false := by decide) : Sound t :=
  ⟨h.jrn.congr (ho.same .jrn hj), hs, h.nv.congr (ho.same .nv hn)⟩

/-- A change within SAFE that leaves the Alarm List and the store alone. -/
theorem Sound.inSafe {l : List Part} {s t : State} (h : Sound s) (hs : s.sup.state = .safe) (ho : onlyParts l s t)
    (ht : t.sup.state = .safe) (ha : t.sup.alarms = s.sup.alarms)
    (hl : (l.all (fun p => decide (p ∉ ([.jrn, .prof, .nv] : List Part)))) = true := by decide) : Sound t := by
  have hj : t.jrn = s.jrn := ho.same_of_avoids hl (p := .jrn) (by simp)
  have hp : t.prof = s.prof := ho.same_of_avoids hl (p := .prof) (by simp)
  have hv : t.nv = s.nv := ho.same_of_avoids hl (p := .nv) (by simp)
  obtain ⟨hempty, hcommit⟩ := (supInv_safe_iff hs).mp h.sup
  exact ⟨h.jrn.congr hj, (supInv_safe_iff ht).mpr ⟨ha.trans hempty, hcommit.congr (storeKept_of_prof hp)⟩,
    h.nv.congr hv⟩

theorem Sound.ite {s t : State} (c : Prop) [Decidable c] (h1 : c → Sound s) (h2 : ¬ c → Sound t) :
    Sound (if c then s else t) := by
  split
  · exact h1 ‹_›
  · exact h2 ‹_›

theorem Sound.foldl {α : Type} {f : State → α → State} (hf : ∀ s a, Sound s → Sound (f s a)) (xs : List α) {s : State}
    (h : Sound s) : Sound (xs.foldl f s) := by
  induction xs generalizing s with
  | nil => exact h
  | cons a xs ih => exact ih (hf s a h)

/-! ### The journal -/

/-- An unpinned record that is displaced makes room for one (R130). -/
theorem length_dropUnpinned (l : List Rec) (h : l.any (fun x => !isPinned x.body) = true) :
    (dropUnpinned l).length + 1 = l.length := by
  induction l with
  | nil => simp at h
  | cons r rs ih =>
    unfold dropUnpinned
    split
    · rename_i hp
      have hrs : rs.any (fun x => !isPinned x.body) = true := by simpa [hp] using h
      simp [ih hrs]
    · simp

/-- A created record joins below the cap, and one is lost or displaced only at the cap (R125, R130). -/
theorem JrnInv.writeRec {s : State} (h : JrnInv s) (b : RecBody) : JrnInv (writeRec b s) := by
  obtain ⟨hcap, hlost⟩ := h
  simp only [JrnInv, Machine.writeRec, setJrn_jrn]
  unfold appendRec
  split
  · rename_i hroom
    have h0 : s.jrn.lost = 0 := Classical.byContradiction fun hne => by
      have := hlost hne
      omega
    exact ⟨by simpa using hroom, fun hne => absurd h0 hne⟩
  · have hfull : s.jrn.recs.length = journalCap := by omega
    split
    · exact ⟨hcap, fun _ => hfull⟩
    · split
      · rename_i hany
        have hlen := length_dropUnpinned s.jrn.recs hany
        simp only [List.length_append, List.length_cons, List.length_nil]
        omega
      · exact ⟨hcap, fun _ => hfull⟩

theorem Sound.writeRec {s : State} (h : Sound s) (b : RecBody) : Sound (writeRec b s) :=
  ⟨h.jrn.writeRec b, h.sup.congr rfl rfl (storeKept_of_prof rfl), h.nv.congr rfl⟩

/-! ### The store and the NV Controller -/

theorem storeKept_setBank (b : BankId) (x : Bank) (s : State) : storeKept s (s.setProf (setBank b x s.prof)) := by
  cases b <;> exact ⟨rfl, rfl⟩

theorem storeKept_cancelUnlock (s : State) : storeKept s (cancelUnlock s) := by
  refine ⟨sessionOpen_cancelUnlock s, ?_⟩
  rw [cancelUnlock_prof_eq]

theorem storeKept_nvBegin (s : State) : storeKept s (nvBegin s) := by
  unfold nvBegin
  split
  · rename_i op rest _ _
    cases op with
    | commit b g p => exact storeKept_setBank b _ s
    | load => exact .refl s
    | archWrite e => exact .refl s
    | erase => exact .refl s
  · exact .refl s

/-- A change of the store that leaves the session and the commit status. -/
theorem Sound.withStore {s t : State} (h : Sound s) (ho : onlyParts [.prof] s t) (hp : storeKept s t) : Sound t :=
  ⟨h.jrn.congr (ho.same .jrn), h.sup.congr (ho.same .sup) (congrArg AckUnit.req (ho.same .ack)) hp,
    h.nv.congr (ho.same .nv)⟩

theorem Sound.cancelUnlock {s : State} (h : Sound s) : Sound (cancelUnlock s) :=
  h.withStore (only_cancelUnlock s) (storeKept_cancelUnlock s)

/-- After `nvBegin` the controller idles only with nothing waiting (R164). -/
theorem nvInv_nvBegin (s : State) : NvInv (nvBegin s) := by
  intro hidle
  unfold nvBegin at hidle ⊢
  split at hidle
  · rename_i op rest _ _
    cases op <;> exact nomatch hidle
  · rename_i hne
    cases hq : s.nv.queue with
    | nil => simp
    | cons op rest => exact absurd hq (hne op rest hidle)

/-- The controller may begin with any requests: it is `nvBegin` that puts it in order. -/
theorem sound_nvBegin {s : State} (hj : JrnInv s) (hs : SupInv s) : Sound (nvBegin s) :=
  ⟨hj.congr ((only_nvBegin s).same .jrn),
    hs.congr ((only_nvBegin s).same .sup) (congrArg AckUnit.req ((only_nvBegin s).same .ack)) (storeKept_nvBegin s),
    nvInv_nvBegin s⟩

theorem Sound.nvBegin {s : State} (h : Sound s) : Sound (nvBegin s) := sound_nvBegin h.jrn h.sup

theorem Sound.nvRequest {s : State} (h : Sound s) (op : NvOp) : Sound (nvRequest op s) :=
  sound_nvBegin (h.jrn.congr rfl) (h.sup.congr rfl rfl (storeKept_of_prof rfl))

theorem Sound.nvFinish {s : State} (h : Sound s) : Sound (nvFinish s) :=
  sound_nvBegin (h.jrn.congr rfl) (h.sup.congr rfl rfl (storeKept_of_prof rfl))

/-! ### The end of a session -/

theorem withoutCommit_idle {s : State} (h : NvInv s) (hc : (withoutCommit s).cur = none) : (withoutCommit s).queue = [] := by
  unfold withoutCommit at hc ⊢
  simp only [] at hc ⊢
  split
  · split
    · rfl
    · rename_i hcut _ _ _ hq
      rw [if_pos hcut, hq] at hc
      exact nomatch hc
  · rename_i hcut
    rw [if_neg hcut] at hc
    simp [h hc]

theorem Sound.nvDropCommit {s : State} (h : Sound s) : Sound (nvDropCommit s) := by
  obtain ⟨hnv, hprof, -⟩ := nvDropCommit_effect s
  have ho := only_nvDropCommit s
  have hp : storeKept s (Machine.nvDropCommit s) := by
    constructor
    · exact sessionOpen_congr (by rw [hprof])
    · rw [hprof]
  refine ⟨h.jrn.congr (ho.same .jrn), h.sup.congr (ho.same .sup) (congrArg AckUnit.req (ho.same .ack)) hp, fun hc => ?_⟩
  rw [hnv] at hc ⊢
  exact withoutCommit_idle h.nv hc

/-- Without a session and a commit the store puts no condition on the Supervisor. -/
theorem supInv_of_shape {s : State} (hs : SupShape s) (ho : sessionOpen s = false) (hc : s.prof.commit ≠ .busy) :
    SupInv s := (supInv_iff s).mpr ⟨hs, fun h => absurd h (by simp [ho]), fun h => absurd h hc⟩

/-- A session ends with its record, and its commit with it (R157, R159, R161). -/
theorem sound_endWith {s : State} (b : RecBody) (hj : JrnInv s) (hn : NvInv s) (hs : SupShape s) :
    Sound (abandonCommit (writeRec b (closeSession s))) := by
  unfold abandonCommit
  split
  · refine Sound.nvDropCommit ⟨(hj.writeRec b).congr rfl, ?_, hn.congr rfl⟩
    exact supInv_of_shape (hs.congr rfl rfl) rfl nofun
  · rename_i hb
    refine Sound.writeRec (s := closeSession s) ⟨hj.congr rfl, ?_, hn.congr rfl⟩ b
    exact supInv_of_shape (hs.congr rfl rfl) rfl hb

theorem sound_abortSession {s : State} (hj : JrnInv s) (hn : NvInv s) (hs : SupShape s) (hc : CommitInv s) :
    Sound (abortSession s) := by
  refine Sound.ite _ (fun _ => sound_endWith _ hj hn hs) (fun ho => ⟨hj, supInv_of_shape hs ?_ ?_, hn⟩)
  · simpa using ho
  · exact fun hb => ho (hc hb)

theorem Sound.abortSession {s : State} (h : Sound s) : Sound (abortSession s) := by
  obtain ⟨hshape, -, hcommit⟩ := (supInv_iff s).mp h.sup
  exact sound_abortSession h.jrn h.nv hshape hcommit

theorem Sound.timeoutSession {s : State} (h : Sound s) : Sound (timeoutSession s) :=
  sound_endWith _ h.jrn h.nv ((supInv_iff s).mp h.sup).1

theorem Sound.closeSession {s : State} (h : Sound s) (hc : s.prof.commit ≠ .busy) : Sound (closeSession s) :=
  h.withSup (only_closeSession s) (supInv_of_shape (((supInv_iff s).mp h.sup).1.congr rfl rfl) rfl hc)

/-- Without an open session no commit is outstanding (R161). -/
theorem Sound.commit_ne_busy {s : State} (h : Sound s) (ho : sessionOpen s = false) : s.prof.commit ≠ .busy := fun hb => by
  have := ((supInv_iff s).mp h.sup).2.2 hb
  simp [ho] at this

/-! ### The supervisor changes state -/

/-- A state change stands on the structure that the new state asks for (R79). -/
theorem sound_changeState {s : State} (x : SupState) (hj : JrnInv s) (hn : NvInv s)
    (hs : SupInv (s.setSup { s.sup with state := x })) : Sound (changeState x s) := by
  have h : Sound (s.setSup { s.sup with state := x }) := ⟨hj.congr rfl, hs, hn.congr rfl⟩
  exact (h.writeRec _).cancelUnlock

/-- Between states other than ALERT and SAFE only a session stands in the way (R15). -/
theorem Sound.changeState {s : State} (h : Sound s) {x : SupState} (ha : s.sup.state ≠ .alert) (hs : s.sup.state ≠ .safe)
    (hxa : x ≠ .alert) (ho : x ≠ .normal → sessionOpen s = false) : Sound (changeState x s) := by
  obtain ⟨⟨-, halarms, hcalm⟩, hsess, hcommit⟩ := (supInv_iff s).mp h.sup
  have hempty : s.sup.alarms = [] := Classical.byContradiction fun hne => ha (halarms.mp hne)
  refine sound_changeState x h.jrn h.nv ((supInv_iff _).mpr ⟨⟨?_, ?_, fun _ => hcalm hs⟩, fun hopen => ?_, hcommit⟩)
  · simp [hempty]
  · simp [hempty, hxa]
  · refine .inl (Classical.byContradiction fun hx => ?_)
    exact absurd ((ho hx).symm.trans hopen) nofun

/-- Outside NORMAL, ALERT and SAFE no session is open (R15). -/
theorem Sound.noSession {s : State} (h : Sound s) (hn : s.sup.state ≠ .normal) (ha : s.sup.state ≠ .alert)
    (hs : s.sup.state ≠ .safe) : sessionOpen s = false := by
  have hsess := ((supInv_iff s).mp h.sup).2.1
  cases ho : sessionOpen s with
  | false => rfl
  | true => rcases hsess ho with e | e | e <;> contradiction

/-! ### Episodes and the Alarm List -/

/-- A change of the Supervisor in none of the fields the invariants speak of. -/
theorem Sound.setSup {s : State} (h : Sound s) (u : Supervisor) (hu : u = { s.sup with
    episode := u.episode, first := u.first, fullCount := u.fullCount, active := u.active, cause := u.cause }) :
    Sound (s.setSup u) := by
  refine h.withSup (only_setSup s u) ?_
  rw [hu]
  exact h.sup

theorem Sound.beginEpisode {s : State} (h : Sound s) (i : SrcId) : Sound (beginEpisode i s) := h.setSup _ rfl

theorem Sound.endEpisode {s : State} (h : Sound s) : Sound (endEpisode s) :=
  h.withSup (only_endEpisode s) h.sup

theorem Sound.episodeIfNormal {s : State} (h : Sound s) (i : SrcId) : Sound (episodeIfNormal i s) :=
  .ite _ (fun _ => h.beginEpisode i) (fun _ => h)

theorem Sound.dropAlarms {s : State} (h : Sound s) (g : Alarm → Bool) : Sound (dropAlarms g s) := by
  obtain ⟨⟨hcap, halarms, hcalm⟩, hsess, hcommit⟩ := (supInv_iff s).mp h.sup
  by_cases hgone : s.sup.state = .alert ∧ s.sup.alarms ≠ [] ∧ s.sup.alarms.filter (fun x => !g x) = []
  · rw [dropAlarms_emptied hgone]
    obtain ⟨hstate, -, hrest⟩ := hgone
    refine Sound.endEpisode (sound_changeState .normal (h.jrn.congr rfl) (h.nv.congr rfl) ?_)
    refine (supInv_iff _).mpr ⟨⟨?_, ?_, fun _ => hcalm (by simp [hstate])⟩, fun _ => .inl rfl, hcommit⟩
    · simp [hrest]
    · simp [hrest]
  · rw [dropAlarms_kept hgone]
    refine h.withSup (only_setSup s _) ((supInv_iff _).mpr ⟨⟨?_, ?_, hcalm⟩, hsess, hcommit⟩)
    · exact (List.length_filter_le _ _).trans hcap
    · show s.sup.alarms.filter (fun x => !g x) ≠ [] ↔ s.sup.state = .alert
      constructor
      · intro hne
        exact halarms.mp fun hnil => hne (by rw [hnil]; rfl)
      · exact fun hstate hrest => hgone ⟨hstate, halarms.mpr hstate, hrest⟩

theorem Sound.clearEffects {s : State} (h : Sound s) (i : SrcId) : Sound (clearEffects i s) := (h.writeRec _).dropAlarms _

/-! ### Entry into SAFE, and what happens there -/

theorem Sound.mergePlan {s : State} (h : Sound s) (hs : s.sup.state = .safe) (n : Fin 8) : Sound (mergePlan n s) :=
  h.inSafe hs (only_mergePlan n s) hs rfl

theorem Sound.createRequest {s : State} (h : Sound s) (hs : s.sup.state = .safe) (q : Word) : Sound (createRequest q s) :=
  h.inSafe hs (only_createRequest q s) hs rfl

/-- Every sound state can enter SAFE: the Alarm List is emptied and an open session aborted (R90). -/
theorem Sound.enterSafe {s : State} (h : Sound s) (n : Fin 8) (i : SrcId) : Sound (enterSafe n i s) := by
  have hcommit := ((supInv_iff s).mp h.sup).2.2
  have h1 : Sound (Machine.changeState .safe (s.setSup { s.sup with alarms := [] })) :=
    sound_changeState .safe (h.jrn.congr rfl) (h.nv.congr rfl) ((supInv_safe_iff rfl).mpr ⟨rfl, hcommit⟩)
  have hstate : (Machine.changeState .safe (s.setSup { s.sup with alarms := [] })).sup.state = .safe := by simp
  unfold Machine.enterSafe
  simp only []
  generalize Machine.changeState .safe (s.setSup { s.sup with alarms := [] }) = u at h1 hstate
  have h2 := (h1.inSafe hstate (only_setSup u { u.sup with cause := some i, active := emptyPlan, dwell := none })
    hstate rfl).mergePlan hstate n
  exact Sound.abortSession (.ite _ (fun _ => h2.createRequest hstate _) (fun _ => h2))

theorem Sound.pulseBegin {s : State} (h : Sound s) (hs : s.sup.state = .safe) (e : Tick) : Sound (pulseBegin e s) :=
  h.inSafe hs (only_pulseBegin e s) hs rfl

theorem Sound.pulseOver {s : State} (h : Sound s) (hs : s.sup.state = .safe) : Sound (pulseOver s) :=
  h.inSafe hs (only_pulseOver s) hs rfl

theorem escalationPulse_sup (s : State) :
    (escalationPulse s).sup = { s.sup with hostReset := (escalationPulse s).sup.hostReset } := by
  unfold escalationPulse
  simp only []
  split <;> rfl

theorem Sound.escalationPulse {s : State} (h : Sound s) (hs : s.sup.state = .safe) : Sound (escalationPulse s) := by
  refine h.inSafe hs (only_escalationPulse s) ?_ ?_
  · rw [escalationPulse_sup]
    exact hs
  · rw [escalationPulse_sup]

theorem Sound.setAck {s : State} (h : Sound s) (hs : s.sup.state = .safe) (a : AckUnit) : Sound (s.setAck a) :=
  h.inSafe hs (only_setAck s a) hs rfl

/-- LOCKDOWN is entered with nothing pending and no session (R111). -/
theorem Sound.enterLockdown {s : State} (h : Sound s) (hs : s.sup.state = .safe) : Sound (enterLockdown s) := by
  obtain ⟨hempty, hcommit⟩ := (supInv_safe_iff hs).mp h.sup
  unfold Machine.enterLockdown
  simp only []
  refine Sound.of_only (Sound.nvRequest (Sound.of_only (sound_abortSession ?_ ?_ ?_ ?_) (only_setRet _ _)) _) (only_setWd _ _)
  · exact (h.jrn.writeRec (.state s.sup.state .lockdown)).congr (by simp)
  · exact h.nv.congr (by simp)
  · simp [SupShape, hempty]
  · exact hcommit.congr ((storeKept_cancelUnlock s).trans (storeKept_of_prof (by simp)))

theorem Sound.escalationAction {s : State} (h : Sound s) (hs : s.sup.state = .safe) (l : BitVec 2) (q : Word) :
    Sound (escalationAction l q s) := by
  unfold Machine.escalationAction
  split
  · exact h
  · exact (h.mergePlan hs 7).createRequest hs q
  · refine (h.escalationPulse hs).createRequest ?_ q
    rw [escalationPulse_sup]
    exact hs
  · exact h.enterLockdown hs

theorem Sound.escalate {s : State} (h : Sound s) (hs : s.sup.state = .safe) : Sound (escalate s) :=
  ((h.setAck hs { s.ack with
    level := (escalationTarget s.prof.running.sup.escCeiling s.ack.level).1 }).writeRec _).escalationAction hs _ _

/-- A release is taken only when no request is pending (R96, R97). -/
theorem Sound.release {s : State} (h : Sound s) (hs : s.sup.state = .safe) (hb : releaseBlock s = none) :
    Sound (release s) := by
  obtain ⟨hempty, hcommit⟩ := (supInv_safe_iff hs).mp h.sup
  have hreq : s.ack.req = none := by
    unfold releaseBlock at hb
    split at hb
    · exact nomatch hb
    · simpa using ‹¬ s.ack.req.isSome = true›
  refine Sound.endEpisode ⟨(h.jrn.writeRec (.state s.sup.state .normal)).congr (by simp), ?_, h.nv.congr (by simp)⟩
  refine (supInv_iff _).mpr ⟨by simp [SupShape, hempty, hreq], fun _ => .inl (by simp), ?_⟩
  exact hcommit.congr ((storeKept_cancelUnlock s).trans (storeKept_of_prof (by simp)))

theorem Sound.acknowledge {s : State} (h : Sound s) (hs : s.sup.state = .safe) (token : Byte) :
    Sound (acknowledge token s).2 := by
  unfold Machine.acknowledge
  split
  · exact h
  · split
    · exact (h.setAck hs _).writeRec _
    · split
      · exact (h.setAck hs _).escalate hs
      · exact h.setAck hs _

/-! ### Dispatch -/

theorem Sound.abortSelftest {s : State} (h : Sound s) : Sound (abortSelftest s) := h.of_only (only_abortSelftest s)

theorem abortSelftest_sup (s : State) : (abortSelftest s).sup = s.sup := (only_abortSelftest s).same .sup

theorem length_insertAlarm (x : Alarm) (l : List Alarm) : (insertAlarm x l).length = l.length + 1 := by
  obtain ⟨before, after, hl, hi, -⟩ := insertAlarm_split x l
  rw [hi, hl, List.length_append, List.length_append, List.length_cons, Nat.add_assoc]

theorem insertAlarm_ne_nil (x : Alarm) (l : List Alarm) : insertAlarm x l ≠ [] := fun h => by
  have := length_insertAlarm x l
  simp [h] at this

theorem episodeIfNormal_sup (i : SrcId) (s : State) :
    (episodeIfNormal i s).sup =
      { s.sup with episode := (episodeIfNormal i s).sup.episode, first := (episodeIfNormal i s).sup.first } := by
  unfold episodeIfNormal
  split <;> rfl

/-- A new entry leads from NORMAL to ALERT, or stays in ALERT (R82, R85). -/
theorem Sound.dispatchAlarm {s : State} (h : Sound s) (hs : s.sup.state = .normal ∨ s.sup.state = .alert)
    (hroom : s.sup.alarms.length < alarmCap) (o : Occ) : Sound (dispatchAlarm o s) := by
  have h1 := (h.episodeIfNormal o.src).writeRec (raiseBody o false)
  have hsup := episodeIfNormal_sup o.src s
  have hstate : (Machine.writeRec (raiseBody o false) (Machine.episodeIfNormal o.src s)).sup.state = s.sup.state := by
    rw [writeRec_sup, hsup]
  have halarms : (Machine.writeRec (raiseBody o false) (Machine.episodeIfNormal o.src s)).sup.alarms = s.sup.alarms := by
    rw [writeRec_sup, hsup]
  unfold Machine.dispatchAlarm
  simp only []
  generalize Machine.writeRec (raiseBody o false) (Machine.episodeIfNormal o.src s) = u at h1 hstate halarms
  obtain ⟨⟨-, -, hcalm⟩, hsess, hcommit⟩ := (supInv_iff u).mp h1.sup
  have hnotsafe : u.sup.state ≠ .safe := by
    rw [hstate]
    rcases hs with e | e <;> simp [e]
  have hlen (x : Alarm) : (insertAlarm x u.sup.alarms).length ≤ alarmCap := by
    rw [length_insertAlarm, halarms]
    exact hroom
  refine .ite _ (fun hn => ?_) (fun hn => ?_)
  · refine sound_changeState .alert (h1.jrn.congr rfl) (h1.nv.congr rfl)
      ((supInv_iff _).mpr ⟨⟨hlen _, ?_, fun _ => hcalm hnotsafe⟩, fun _ => .inr (.inl rfl), hcommit⟩)
    simp [insertAlarm_ne_nil]
  · have halert : u.sup.state = .alert := by
      rw [hstate] at hn ⊢
      exact hs.resolve_left hn
    refine h1.withSup (only_setSup u _) ((supInv_iff _).mpr ⟨⟨hlen _, ?_, hcalm⟩, hsess, hcommit⟩)
    simp [insertAlarm_ne_nil, halert]

theorem Sound.dispatchExhausted {s : State} (h : Sound s) (o : Occ) : Sound (dispatchExhausted o s) :=
  (((h.episodeIfNormal _).writeRec _).setSup _ rfl).enterSafe _ _

theorem Sound.dispatchCritical {s : State} (h : Sound s) (o : Occ) : Sound (dispatchCritical o s) :=
  ((h.episodeIfNormal _).writeRec _).enterSafe _ _

theorem Sound.dispatchCalm {s : State} (h : Sound s) (hs : s.sup.state = .normal ∨ s.sup.state = .alert) (o : Occ) :
    Sound (dispatchCalm o s) := by
  unfold Machine.dispatchCalm
  split
  · exact h.writeRec _
  · refine .ite _ (fun hroom => h.abortSelftest.dispatchAlarm ?_ ?_ o) (fun _ => h.abortSelftest.dispatchExhausted o)
    · rw [abortSelftest_sup]
      exact hs
    · rw [abortSelftest_sup]
      exact hroom
  · exact h.abortSelftest.dispatchCritical o

theorem Sound.dispatchMerge {s : State} (h : Sound s) (hs : s.sup.state = .safe) (o : Occ) : Sound (dispatchMerge o s) := by
  have hm := (h.writeRec (raiseBody o false)).mergePlan hs o.plan
  unfold Machine.dispatchMerge
  simp only []
  generalize mergeRequests o s _ = asks
  have hr : Sound (if asks = true then
        Machine.createRequest s.jrn.seq (Machine.mergePlan o.plan (Machine.writeRec (raiseBody o false) s))
      else Machine.mergePlan o.plan (Machine.writeRec (raiseBody o false) s)) :=
    .ite _ (fun _ => hm.createRequest hs _) (fun _ => hm)
  refine .ite _ (fun _ => hr.abortSession.escalate ?_) (fun _ => hr.abortSession)
  rw [(only_abortSession _).same .sup]
  split <;> exact hs

theorem Sound.dispatchSafe {s : State} (h : Sound s) (hs : s.sup.state = .safe) (o : Occ) : Sound (dispatchSafe o s) := by
  unfold Machine.dispatchSafe
  split
  · exact h.writeRec _
  · exact h.abortSelftest.writeRec _
  · refine h.abortSelftest.dispatchMerge ?_ o
    rw [abortSelftest_sup]
    exact hs

theorem Sound.dispatch {s : State} (h : Sound s) (o : Occ) : Sound (dispatch o s) := by
  unfold Machine.dispatch
  split
  case h_1 hs => exact h.dispatchCalm (.inl hs) o
  case h_2 hs => exact h.dispatchCalm (.inr hs) o
  case h_3 hs => exact h.dispatchSafe hs o
  case h_4 => exact h.writeRec _
  all_goals exact h

end Sys2Proof.Machine
end

section
/-!
PROOF. The invariants under the steps of a tick batch, under the executing rules of the commands and at the port, and from
these under every row.
-/

namespace Sys2Proof.Machine

set_option Elab.async false

/-! ### Stage D, categories 1 to 7 -/

theorem Sound.stepExpiry {s : State} (h : Sound s) : Sound (stepExpiry s) := by
  unfold Machine.stepExpiry
  split
  · exact h
  · exact .ite _ (fun _ => (h.writeRec _).enterSafe _ _) (fun _ => h)

theorem Sound.stepDeadline {s : State} (h : Sound s) : Sound (stepDeadline s) :=
  .ite _ (fun hc => (h.setAck hc.1 { s.ack with req := none }).escalate hc.1) (fun _ => h)

theorem Sound.stepPulseStart {s : State} (h : Sound s) : Sound (stepPulseStart s) := by
  unfold Machine.stepPulseStart
  split
  · exact .ite _ (fun hc => h.pulseBegin hc.1 _) (fun _ => h)
  · exact h
  · exact h

theorem Sound.stepPulseEnd {s : State} (h : Sound s) : Sound (stepPulseEnd s) := by
  unfold Machine.stepPulseEnd
  split
  · exact .ite _ (fun hc => h.pulseOver hc.1) (fun _ => h)
  · exact h
  · exact h

theorem Sound.stepCut {s : State} (h : Sound s) : Sound (stepCut s) := by
  unfold Machine.stepCut
  split
  · exact .ite _ (fun hc => h.inSafe hc.1 (only_setSup s _) hc.1 rfl) (fun _ => h)
  · exact h
  · exact h

theorem Sound.stepActions {s : State} (h : Sound s) : Sound (stepActions s) := h.stepPulseEnd.stepPulseStart.stepCut

theorem Sound.stepDwell {s : State} (h : Sound s) : Sound (stepDwell s) := by
  unfold Machine.stepDwell
  split
  · exact h
  · exact .ite _ (fun hc => h.inSafe hc.1 (only_setSup s _) hc.1 rfl) (fun _ => h)

theorem Sound.stepEpMin {s : State} (h : Sound s) : Sound (stepEpMin s) := h.of_only (only_stepEpMin s)

theorem Sound.stepAutoRelease {s : State} (h : Sound s) : Sound (stepAutoRelease s) :=
  .ite _ (fun hc => h.release hc.1 (Option.isNone_iff_eq_none.mp hc.2.2)) (fun _ => h)

/-! ### The end of INIT, the self-test and nonvolatile operations -/

theorem Sound.endInitSafe {s : State} (h : Sound s) : Sound (endInitSafe s) := by
  have hlatched := ((h.beginEpisode (bootCause s)).of_only (only_latchProfile _)).of_only (only_latchSelftest _)
  exact (hlatched.enterSafe 0 (bootCause s)).of_only (only_setWd _ _)

/-- INIT holds no session, so each of its three ends is open to it (R168). -/
theorem Sound.endInit {s : State} (h : Sound s) (hs : s.sup.state = .init) : Sound (endInit s) := by
  have h0 : Sound (finishInit s) := h.of_only (only_finishInit s)
  have hno : sessionOpen (finishInit s) = false := h.noSession (by simp [hs]) (by simp [hs]) (by simp [hs])
  have hchange (x : SupState) (hx : x ≠ .alert) : Sound (Machine.changeState x (finishInit s)) :=
    h0.changeState (by simp [finishInit, hs]) (by simp [finishInit, hs]) hx (fun _ => hno)
  unfold Machine.endInit
  simp only []
  refine .ite _ (fun _ => ?_) (fun _ => .ite _ (fun _ => ?_) (fun _ => ?_))
  · exact (hchange .lockdown nofun).of_only (only_armHeartbeats _)
  · exact h0.endInitSafe.of_only (only_armHeartbeats _)
  · exact ((hchange .normal nofun).of_only (only_setWd _ _)).of_only (only_armHeartbeats _)

theorem Sound.afterRun {s : State} (h : Sound s) : Sound (afterRun s) := .ite _ (fun hc => h.endInit hc.1) (fun _ => h)

theorem Sound.stepSelftest {s : State} (h : Sound s) (f : BitVec 8) (n : Nat) : Sound (stepSelftest f n s) := by
  have hst (x : SelfTest) : Sound (s.setSt x) := h.of_only (only_setSt s x)
  unfold Machine.stepSelftest completeSelftest
  split
  · exact .ite _ (fun _ => .ite _ (fun _ => (hst _).afterRun) (fun _ => .ite _ (fun _ => (hst _).afterRun)
      (fun _ => hst _))) (fun _ => h)
  all_goals exact h

theorem Sound.stepInitBegin {s : State} (h : Sound s) : Sound (stepInitBegin s) :=
  .ite _ (fun _ => (h.of_only (only_setClk s _)).nvRequest _) (fun _ => h)

theorem storeKept_loadBanks (s : State) : storeKept s (s.setProf (loadBanks s.prof)) := by
  have hstore : (loadBanks s.prof).session = s.prof.session ∧ (loadBanks s.prof).commit = s.prof.commit := by
    unfold loadBanks
    simp only []
    split
    · split <;> exact ⟨rfl, rfl⟩
    all_goals exact ⟨rfl, rfl⟩
  exact ⟨sessionOpen_congr hstore.1, hstore.2⟩

theorem Sound.completeLoad {s : State} (h : Sound s) : Sound (completeLoad s) := by
  have h1 := (h.withStore (only_setProf s _) (storeKept_loadBanks s)).nvFinish
  exact .ite _ (fun _ => (h1.of_only (only_setClk _ _)).nvRequest _) (fun _ => h1)

theorem Sound.afterArchive {s : State} (h : Sound s) (hs : s.sup.state = .init) : Sound (afterArchive s) :=
  .ite _ (fun _ => (h.of_only (only_setClk s _)).of_only (only_setSt _ _)) (fun _ => h.endInit hs)

theorem Sound.completeArchWrite {s : State} (h : Sound s) (e : ArchEntry) : Sound (completeArchWrite e s) := by
  have h1 := (h.of_only (only_setArch s (archStore e s.arch))).nvFinish
  exact .ite _ (fun hc => (h1.of_only (only_setArch _ _)).afterArchive hc.1) (fun _ => h1)

theorem Sound.completeErase {s : State} (h : Sound s) : Sound (completeErase s) := (h.of_only (only_setArch s _)).nvFinish

/-- A commit that completes is outstanding no longer (R160). -/
theorem Sound.completeCommit {s : State} (h : Sound s) (b : BankId) (g : Word) (p : Profile) :
    Sound (completeCommit b g p s) := by
  obtain ⟨hshape, hsess, -⟩ := (supInv_iff s).mp h.sup
  have hbank := (storeKept_setBank b (writtenBank g p) s).1
  refine Sound.nvFinish (Sound.writeRec (h.withSup (only_setProf s _) ?_) _)
  exact (supInv_iff _).mpr ⟨hshape.congr rfl rfl, fun ho => hsess (hbank.symm.trans ho), nofun⟩

theorem Sound.completeNv {s : State} (h : Sound s) : Sound (completeNv s) := by
  unfold Machine.completeNv
  split
  · exact h
  · exact h.completeLoad
  · exact h.completeArchWrite _
  · exact h.completeErase
  · exact h.completeCommit _ _ _

theorem Sound.stepNv {s : State} (h : Sound s) (done : Bool) : Sound (stepNv done s) := by
  unfold Machine.stepNv
  split
  · exact h
  · exact .ite _ (fun _ => h.completeNv) (fun _ => h)

theorem Sound.stepUnlock {s : State} (h : Sound s) : Sound (stepUnlock s) := by
  unfold Machine.stepUnlock
  split
  · rename_i due hu
    exact .ite _ (fun _ => h.closeSession (h.commit_ne_busy (by simp [sessionOpen, hu]))) (fun _ => h)
  · exact h
  · exact h

theorem Sound.stepSessionLimit {s : State} (h : Sound s) : Sound (stepSessionLimit s) := by
  unfold Machine.stepSessionLimit
  split
  · exact .ite _ (fun _ => h.timeoutSession) (fun _ => h)
  · exact h
  · exact h

/-! ### STANDBY and WAKING -/

/-- STANDBY is entered from NORMAL without a session (R173). -/
theorem Sound.enterStandby {s : State} (h : Sound s) (hs : s.sup.state = .normal) (ho : sessionOpen s = false) :
    Sound (enterStandby s) := by
  have h1 : Sound (Machine.changeState .standby s) := h.changeState (by simp [hs]) (by simp [hs]) nofun (fun _ => ho)
  exact ((((h1.of_only (only_setFl _ _)).of_only (only_setHb _ _)).of_only (only_setWd _ _)).of_only
    (only_setLink _ _)).of_only (only_setClk _ _)

theorem Sound.beginWaking {s : State} (h : Sound s) (hs : s.sup.state = .standby) : Sound (beginWaking s) := by
  have hno : sessionOpen s = false := h.noSession (by simp [hs]) (by simp [hs]) (by simp [hs])
  have h1 : Sound (Machine.changeState .waking s) := h.changeState (by simp [hs]) (by simp [hs]) nofun (fun _ => hno)
  exact (h1.of_only (only_setClk _ _)).of_only (only_setLink _ _)

theorem Sound.stepWake {s : State} (h : Sound s) : Sound (stepWake s) := .ite _ (fun hc => h.beginWaking hc.1) (fun _ => h)

theorem Sound.endWaking {s : State} (h : Sound s) (hs : s.sup.state = .waking) : Sound (endWaking s) := by
  have h0 : Sound (s.setClk { s.clk with wakingDue := none }) := h.of_only (only_setClk s _)
  have h1 := h0.changeState (x := .normal) (by simp [hs]) (by simp [hs]) nofun (fun hx => absurd rfl hx)
  exact (h1.of_only (only_setWd _ _)).of_only (only_armHeartbeats _)

theorem Sound.stepWakingEnd {s : State} (h : Sound s) : Sound (stepWakingEnd s) := by
  unfold Machine.stepWakingEnd
  split
  · exact h
  · exact .ite _ (fun hc => h.endWaking hc.1) (fun _ => h)

/-! ### The stages -/

theorem Sound.sourceStep {acc : State × List Occ} (h : Sound acc.1) (i : SrcId) : Sound (sourceStep acc i).1 := by
  unfold Machine.sourceStep
  simp only []
  split
  · exact h.of_only (only_setSrc _ _)
  · exact h.of_only (only_setSrc _ _)
  · exact (h.of_only (only_setSrc _ _)).clearEffects i

theorem Sound.sourceFold (l : List SrcId) {acc : State × List Occ} (h : Sound acc.1) :
    Sound (l.foldl Machine.sourceStep acc).1 := by
  induction l generalizing acc with
  | nil => exact h
  | cons i l ih => exact ih (h.sourceStep i)

theorem Sound.stageB {s : State} (h : Sound s) : Sound (stageB s).1 :=
  (Sound.sourceFold _ (acc := (s, [])) h).of_only (only_setFl _ _)

theorem Sound.stageC {s : State} (h : Sound s) (occs : List Occ) : Sound (stageC occs s) :=
  .foldl (f := fun u o => Machine.dispatch o u) (fun _ o hu => hu.dispatch o) _ h

theorem Sound.stageBC {s : State} (h : Sound s) (x : SupState) : Sound (stageBC x s) :=
  .ite _ (fun _ => (h.stageB.stageC _).of_only (only_refreshCrit _)) (fun _ => h)

theorem Sound.runSteps {fs : List (State → State)} (hf : ∀ f ∈ fs, ∀ s, Sound s → Sound (f s)) {s : State} (h : Sound s) :
    Sound (runSteps fs s) := by
  induction fs generalizing s with
  | nil => exact h
  | cons f fs ih => exact ih (fun g hg => hf g (by simp [hg])) (hf f (by simp) s h)

/-- Every step of Stage D keeps the invariants (R72). -/
theorem sound_timerSteps (x : SupState) (inp : TickInputs) : ∀ f ∈ timerSteps x inp, ∀ s, Sound s → Sound (f s) := by
  intro f hf s h
  rcases List.mem_append.mp hf with hm | hm
  · unfold safetySteps at hm
    split at hm
    · simp only [List.mem_cons, List.not_mem_nil, or_false] at hm
      obtain rfl | rfl | rfl | rfl | rfl | rfl := hm
      · exact h.stepExpiry
      · exact h.stepDeadline
      · exact h.stepActions
      · exact h.stepDwell
      · exact h.stepEpMin
      · exact .ite _ (fun _ => h.stepAutoRelease) (fun _ => h)
    · exact nomatch hm
  · simp only [deviceSteps, List.mem_cons, List.not_mem_nil, or_false] at hm
    obtain rfl | rfl | rfl | rfl | rfl | rfl | rfl := hm
    · exact h.stepSelftest _ _
    · exact h.stepInitBegin
    · exact h.stepWake
    · exact h.stepWakingEnd
    · exact h.stepUnlock
    · exact h.stepSessionLimit
    · exact h.stepNv _

theorem Sound.stageA {s : State} (h : Sound s) (x : SupState) (inp : TickInputs) : Sound (stageA x inp s) :=
  h.of_only (only_stageA x inp s)

theorem Sound.stageD {s : State} (h : Sound s) (x : SupState) (inp : TickInputs) : Sound (stageD x inp s) :=
  (Sound.runSteps (sound_timerSteps x inp) h).of_only (only_refreshCrit _)

theorem Sound.runStages {s : State} (h : Sound s) (x : SupState) (inp : TickInputs) : Sound (runStages x inp s) :=
  ((((h.stageA x inp).stageBC x).stageD x inp).of_only (only_stageE _)).of_only (only_stageF _ _)

theorem Sound.sufferDamage {s : State} (h : Sound s) (d : NvDamage) : Sound (sufferDamage d s) := by
  cases d with
  | claim i flips => exact h.of_only (only_setArch s _)
  | body i flips => exact h.of_only (only_setArch s _)
  | code b flips => exact h.withStore (only_setProf s _) (storeKept_setBank b _ s)

theorem Sound.batchStart {s : State} (h : Sound s) (inp : TickInputs) : Sound (batchStart inp s) :=
  (Sound.foldl (f := fun u d => Machine.sufferDamage d u) (fun _ d hu => hu.sufferDamage d) inp.damage h).of_only
    (only_setClk _ _)

/-! ### The executing rules of the commands -/

/-- What the side effect of a read can change (R177). -/
theorem only_readEffect (addr : Byte) (s : State) : onlyParts [.clk, .hb, .link, .port] s (readEffect addr s) := by
  unfold readEffect
  split
  · exact (only_setClk _ _).mono
  · exact (only_setClk _ _).mono
  iterate 4 exact (only_setHb _ _).mono
  iterate 4 exact (only_setLink _ _).mono
  · exact (only_setPort _ _).mono
  · exact .refl _ _

theorem Sound.writeStaging {s : State} (h : Sound s) (addr : Byte) (x : Word) : Sound (writeStaging addr x s) := by
  unfold Machine.writeStaging
  split
  · rename_i due p ho
    exact h.withStore (only_setProf s _) ⟨by simp [sessionOpen, ho], rfl⟩
  · exact h
  · exact h

theorem Sound.writeEffect {s : State} (h : Sound s) (addr : Byte) (x : Word) : Sound (writeEffect addr x s) := by
  unfold Machine.writeEffect
  split
  case h_5 => exact (h.of_only (only_setSel s _)).of_only (only_setArch _ _)
  case h_10 => exact h.writeStaging addr x
  all_goals exact h.of_only (only_setSel s _)

theorem Sound.doClearSource {s : State} (h : Sound s) (arg : BitVec 24) : Sound (doClearSource arg s).st := by
  have hcleared (x : Vector SrcRec 56) : Sound (s.setSrc x) := h.of_only (only_setSrc s x)
  unfold Machine.doClearSource
  simp only []
  split
  · exact hcleared _
  all_goals
    split
    · exact h
    · exact (hcleared _).clearEffects _

theorem Sound.doInject {s : State} (h : Sound s) (arg : BitVec 24) : Sound (doInject arg s).st := by
  unfold Machine.doInject
  simp only []
  split
  · exact h.of_only (only_setSrc s _)
  · exact h

theorem Sound.doPurgeNode {s : State} (h : Sound s) (arg : BitVec 24) : Sound (doPurgeNode arg s).st := by
  unfold Machine.doPurgeNode
  simp only []
  split
  · exact h.of_only (only_setLink s _)
  · exact h

theorem Sound.doAckSafe {s : State} (h : Sound s) (hs : s.sup.state = .safe) (arg : BitVec 24) :
    Sound (doAckSafe arg s).st := by
  have hack := h.acknowledge hs (argLow arg)
  unfold Machine.doAckSafe
  split <;> rename_i ha <;> rw [ha] at hack
  · exact h
  · exact hack
  · exact hack

theorem Sound.doReleaseSafe {s : State} (h : Sound s) (hs : s.sup.state = .safe) : Sound (doReleaseSafe s).st := by
  unfold Machine.doReleaseSafe
  split
  · exact h
  · exact h.release hs ‹_›

theorem Sound.doService {s : State} (h : Sound s) (arg : BitVec 24) : Sound (doService arg s).st := by
  unfold Machine.doService
  split
  · exact h
  · exact h.of_only (only_setWd s _)

/-- Below the cap a record is appended (R130). -/
theorem writeRec_recs_of_room {s : State} (b : RecBody) (h : s.jrn.recs.length < journalCap) :
    (writeRec b s).jrn.recs = s.jrn.recs ++ [newRec s b] := by
  simp [writeRec, appendRec, h]

/-- A removal from a full journal that has lost records puts the LOST marker into the room it makes (R131). -/
theorem Sound.lostMarker {s : State} (h : Sound s) {r : Rec} {rest : List Rec} (hr : s.jrn.recs = r :: rest) :
    Sound (lostMarker (s.setJrn { s.jrn with recs := rest, buf := some r })) := by
  obtain ⟨hcap, hlost⟩ := h.jrn
  have hlen : s.jrn.recs.length = rest.length + 1 := by simp [hr]
  unfold Machine.lostMarker
  simp only [setJrn_jrn]
  refine .ite _ (fun h0 => ?_) (fun hne => ?_)
  · exact ⟨⟨by simp only [setJrn_jrn]; omega, fun hne => absurd h0 hne⟩, h.sup.congr rfl rfl (storeKept_of_prof rfl),
      h.nv.congr rfl⟩
  · have hroom : rest.length < journalCap := by
      have := hlost hne
      omega
    refine ⟨⟨?_, fun hz => absurd rfl hz⟩, h.sup.congr rfl rfl (storeKept_of_prof rfl), h.nv.congr rfl⟩
    rw [setJrn_jrn, writeRec_recs_of_room (s := s.setJrn { s.jrn with recs := rest, buf := some r }) _ hroom]
    simpa using hroom

theorem Sound.doPopJournal {s : State} (h : Sound s) : Sound (doPopJournal s).st := by
  unfold Machine.doPopJournal
  split
  · exact h
  · exact h.lostMarker ‹_›

theorem Sound.doPeekJournal {s : State} (h : Sound s) : Sound (doPeekJournal s).st := by
  unfold Machine.doPeekJournal
  split
  · exact h
  · exact ⟨h.jrn, h.sup.congr rfl rfl (storeKept_of_prof rfl), h.nv.congr rfl⟩

theorem Sound.doClearArchive {s : State} (h : Sound s) : Sound (doClearArchive s).st := by
  unfold Machine.doClearArchive
  split
  · exact h
  · exact h.nvRequest _

/-- A session opens in NORMAL or SAFE (R15, R157). -/
theorem Sound.openNow {s : State} (h : Sound s) (hs : s.sup.state = .normal ∨ s.sup.state = .safe) :
    Sound (openNow s) := by
  have hshape := ((supInv_iff s).mp h.sup).1
  refine Sound.abortSelftest (Sound.writeRec (h.withSup (only_setProf s _) ?_) _)
  exact (supInv_iff _).mpr ⟨hshape.congr rfl rfl, fun _ => hs.imp_right .inr, fun _ => rfl⟩

theorem Sound.doOpenSession {s : State} (h : Sound s) (hs : s.sup.state = .normal ∨ s.sup.state = .safe)
    (arg : BitVec 24) : Sound (doOpenSession arg s).st := by
  unfold Machine.doOpenSession
  split
  · exact h
  · split
    · exact h
    · have hno : sessionOpen s = false := by simp [sessionOpen, ‹s.prof.session = .closed›]
      split
      · exact h.withStore (only_setProf s _) ⟨hno.symm, rfl⟩
      · exact h
    · rename_i hu
      split
      · exact h.openNow hs
      · exact h.closeSession (h.commit_ne_busy (by simp [sessionOpen, hu]))

theorem only_adjustBlocks (old new : Profile) (s : State) :
    onlyParts [.fl, .hb, .link, .src, .wd, .out] s (adjustBlocks old new s) := by
  unfold adjustBlocks
  simp only []
  exact .trans (.trans (.trans (.trans (.trans (only_setFl _ _).mono (only_setHb _ _).mono) (only_setLink _ _).mono)
    (only_setSrc _ _).mono) (only_setWd _ _).mono) (only_setOut _ _).mono

/-- An APPLY is refused while a commit is outstanding (R158). -/
theorem commit_ne_busy_of_applyBlock {p : Profile} {s : State} (h : applyBlock p s = none) : s.prof.commit ≠ .busy := by
  unfold applyBlock at h
  split at h
  · exact nomatch h
  · simpa [commitBusy] using ‹¬ commitBusy s = true›

theorem Sound.applyProfile {s : State} (h : Sound s) (hc : s.prof.commit ≠ .busy) (p : Profile) :
    Sound (applyProfile p s) := by
  have h1 : Sound (s.setProf { s.prof with running := p, coded := p, dflt := false }) :=
    h.withStore (only_setProf s _) ⟨rfl, rfl⟩
  exact (((h1.writeRec _).closeSession hc).of_only (only_adjustBlocks _ _ _)).dropAlarms _

theorem Sound.doCloseApply {s : State} (h : Sound s) : Sound (doCloseApply s).st := by
  unfold Machine.doCloseApply
  split
  · split
    · exact h
    · exact h.applyProfile (commit_ne_busy_of_applyBlock ‹_›) _
  · exact h
  · exact h

theorem Sound.doCloseDiscard {s : State} (h : Sound s) : Sound (doCloseDiscard s).st := by
  unfold Machine.doCloseDiscard
  split
  · exact h
  · exact (h.writeRec _).closeSession (by simpa [commitBusy] using ‹¬ commitBusy s = true›)

theorem Sound.doCommit {s : State} (h : Sound s) : Sound (doCommit s).st := by
  unfold Machine.doCommit
  split
  · rename_i due p ho
    split
    · exact h
    · obtain ⟨hshape, hsess, -⟩ := (supInv_iff s).mp h.sup
      refine Sound.nvRequest (h.withSup (only_setProf s _) ?_) _
      exact (supInv_iff _).mpr ⟨hshape.congr rfl rfl, hsess, fun _ => by simp [sessionOpen, ho]⟩
  · exact h
  · exact h

theorem Sound.doRunSelftest {s : State} (h : Sound s) : Sound (doRunSelftest s).st := by
  unfold Machine.doRunSelftest
  split
  · exact h
  · exact h.of_only (only_setSt s _)

theorem Sound.doEnterStandby {s : State} (h : Sound s) (hs : s.sup.state = .normal) : Sound (doEnterStandby s).st := by
  unfold Machine.doEnterStandby
  split
  · exact h
  · split
    · exact h
    · split
      · exact h
      · exact h.enterStandby hs (by simpa using ‹¬ sessionOpen s = true›)

/-! ### Resets -/

/-- The invariants hold wherever the blocks they speak of have their reset values. -/
theorem inv_of_resetBlocks {s : State} {a b : Bank} (hjrn : s.jrn = resetJrn) (hsup : s.sup = resetSup) (hack : s.ack = resetAck)
    (hprof : s.prof = resetProf a b) (hnv : s.nv = resetNv) (hport : s.port = resetPort) : Inv s := by
  refine ⟨?_, (supInv_iff s).mpr ⟨?_, ?_, ?_⟩, ?_, ?_⟩
  · simp [JrnInv, hjrn, resetJrn]
  · simp [SupShape, hsup, hack, resetSup, resetAck]
  · simp [SessInv, sessionOpen, hprof, resetProf]
  · simp [CommitInv, hprof, resetProf]
  · simp [NvInv, hnv, resetNv]
  · simp [PortInv, hport, resetPort]

/-- The invariants hold in every state that a reset begins (R165). -/
theorem inv_beginReset (k : ResetKind) (s : State) : Inv (beginReset k s) := inv_of_resetBlocks rfl rfl rfl rfl rfl rfl

theorem Inv.sound {s : State} (h : Inv s) : Sound s := ⟨h.1, h.2.1, h.2.2.1⟩

theorem Sound.inv {s : State} (h : Sound s) (hp : PortInv s) : Inv s := ⟨h.jrn, h.sup, h.nv, hp⟩

theorem Inv.port {s : State} (h : Inv s) : PortInv s := h.2.2.2

theorem PortInv.congr {s t : State} (h : PortInv s) (hp : t.port = s.port) : PortInv t := by
  unfold PortInv
  rw [hp]
  exact h

theorem Sound.doSoftReset {s : State} (h : Sound s) : Sound (doSoftReset s).st := by
  unfold Machine.doSoftReset
  split
  · exact h
  · exact (inv_beginReset .soft s).sound

/-- Every executing rule of section 1.4 keeps the invariants in the states in which its command is permitted (R15). -/
theorem Sound.runCommand {s : State} (h : Sound s) {c : Cmd} (hp : permitted c s.sup.state (sessionOpen s) = true)
    (arg : BitVec 24) : Sound (runCommand c arg s).st := by
  cases c with
  | nop => exact h
  | readReg => exact h.of_only (only_readEffect _ s)
  | writeReg => exact h.writeEffect _ _
  | clearSource => exact h.doClearSource arg
  | inject => exact h.doInject arg
  | raiseSw => exact h.of_only (only_setSw s _)
  | lowerSw => exact h.of_only (only_setSw s _)
  | purgeNode => exact h.doPurgeNode arg
  | ackSafe => exact h.doAckSafe (eq_of_beq hp) arg
  | releaseSafe => exact h.doReleaseSafe (eq_of_beq hp)
  | service => exact h.doService arg
  | popJournal => exact h.doPopJournal
  | peekJournal => exact h.doPeekJournal
  | openSession => exact h.doOpenSession (by simpa [permitted] using hp) arg
  | closeApply => exact h.doCloseApply
  | closeDiscard => exact h.doCloseDiscard
  | commitProfile => exact h.doCommit
  | resetCounts => exact h.of_only (only_setSrc s _)
  | clearArchive => exact h.doClearArchive
  | runSelftest => exact h.doRunSelftest
  | enterStandby => exact h.doEnterStandby (eq_of_beq hp)
  | wake => exact h.beginWaking (eq_of_beq hp)
  | softReset => exact h.doSoftReset

/-! ### Frames -/

theorem Sound.setPort {s : State} (h : Sound s) (p : HostPort) : Sound (s.setPort p) := h.of_only (only_setPort s p)

/-- The port takes a value that holds a stored result if it is SYNCHRONISED. -/
theorem Inv.setPort {s : State} (h : Inv s) {p : HostPort} (hp : p.synced = true → p.stored.isSome = true) :
    Inv (s.setPort p) := (h.sound.setPort p).inv hp

theorem inv_storeResult {s : State} (h : Sound s) (tag : BitVec 3) (res : Res) (data : BitVec 24) :
    Inv (storeResult tag res data s) := ((h.setPort _).setPort _).inv (fun _ => rfl)

theorem Sound.afterCommand {s : State} (h : Sound s) (c : Cmd) (before : State) : Sound (afterCommand c before s) :=
  (((Sound.ite _ (fun _ => h) (fun _ => h.cancelUnlock)).of_only (only_copyChanged _ _)).of_only
    (only_refreshAttn _)).of_only (only_refreshCrit _)

/-- Only SOFT_RESET answers that it has begun a reset (R175). -/
theorem runCommand_reset {c : Cmd} {arg : BitVec 24} {s : State} (h : (runCommand c arg s).reset = true) :
    (runCommand c arg s).st = beginReset .soft s := by
  cases c
  case softReset =>
    simp only [runCommand, doSoftReset] at h ⊢
    split at h
    · exact nomatch h
    · rw [if_neg ‹_›]
  all_goals
    refine absurd h ?_
    simp only [runCommand, doNop, doReadReg, doWriteReg, doClearSource, doInject, doRaiseSw, doLowerSw, doPurgeNode, doAckSafe,
      doReleaseSafe, doService, doPopJournal, doPeekJournal, doOpenSession, doCloseApply, doCloseDiscard, doCommit,
      doResetCounts, doClearArchive, doRunSelftest, doEnterStandby, doWake]
    repeat' split
    all_goals exact Bool.false_ne_true

/-- An executed command leaves a stored result, but for a SOFT reset, which leaves the port NOT SYNCHRONISED (R9, R20, R175). -/
theorem inv_execute {s : State} (h : Sound s) {c : Cmd} (hp : permitted c s.sup.state (sessionOpen s) = true)
    (tag : BitVec 3) (arg : BitVec 24) : Inv (execute tag c arg s) := by
  have hrule := h.runCommand hp arg
  unfold execute
  simp only []
  split
  · rename_i hr
    rw [runCommand_reset hr]
    exact inv_beginReset .soft s
  · exact inv_storeResult (hrule.afterCommand c s) _ _ _

theorem inv_rejectNew {s : State} (h : Sound s) (tag : BitVec 3) (res : Res) : Inv (rejectNew tag res s) :=
  inv_storeResult (h.setPort _) _ _ _

/-- A frame accepted as new ends with a stored result, executed or rejected (R9). -/
theorem inv_judgeCommand {s : State} (h : Sound s) (tag : BitVec 3) (c : Cmd) (arg : BitVec 24) :
    Inv (judgeCommand tag c arg s) := by
  unfold judgeCommand
  split
  · exact inv_rejectNew h _ _
  · rename_i hp
    split
    · exact inv_rejectNew h _ _
    · split
      · exact inv_rejectNew h _ _
      · exact inv_execute h (by simpa using hp) _ _

theorem inv_processNew {s : State} (h : Sound s) (f : RawFrame) : Inv (processNew f s) := by
  unfold processNew
  split
  · exact inv_rejectNew (h.setPort _) _ _
  · exact inv_judgeCommand (h.setPort _) _ _ _

theorem Inv.retransmit {s : State} (h : Inv s) : Inv (retransmit s) := by
  have h1 : Inv (s.setPort { s.port with consec := 0 }) := h.setPort h.port
  unfold Machine.retransmit
  simp only []
  split
  · exact h1.setPort h.port
  · exact h1

theorem Inv.rejectLength {s : State} (h : Inv s) : Inv (rejectLength s) :=
  ((h.setPort h.port).setPort h.port).setPort h.port

theorem Inv.processFrame {s : State} (h : Inv s) (f : RawFrame) : Inv (processFrame f s) := by
  have hcounted : Inv (countError s) := h.setPort h.port
  unfold Machine.processFrame
  split
  · exact (hcounted.setPort h.port).setPort h.port
  · split
    · exact (h.setPort h.port).setPort h.port
    · split
      · exact inv_processNew h.sound f
      · exact h.retransmit
      · exact (hcounted.setPort h.port).setPort h.port

theorem Inv.onPort {s : State} (h : Inv s) (start : FrameStart) (n : Nat) {process : State → State}
    (hp : ∀ u, Inv u → Inv (process u)) : Inv (onPort start n process s) := by
  have hshown (bits : List Bool) : Inv (showSdo bits s) := h.setPort h.port
  unfold Machine.onPort
  split
  · exact h
  · split
    · exact h
    · exact hshown _
    · exact hp _ (hshown _)
    · exact hp _ (hshown _)

theorem Inv.hostFrame {s : State} (h : Inv s) (start : FrameStart) (f : RawFrame) : Inv (hostFrame start f s) :=
  h.onPort start 48 (fun _ hu => hu.processFrame f)

theorem Inv.hostBits {s : State} (h : Inv s) (start : FrameStart) (bits : List Bool) : Inv (hostBits start bits s) := by
  unfold Machine.hostBits
  split
  · exact h
  · split
    · exact h.hostFrame _ _
    · exact h.onPort _ _ (fun _ hu => hu.rejectLength)

theorem Inv.commandFrame {s : State} (h : Inv s) (x : FrameHead) (code : Byte) (arg : BitVec 24) :
    Inv (commandFrame x code arg s) := h.hostFrame _ _

/-! ### Resets, the oscillator and batches as rows -/

theorem Inv.of_sound {l : List Part} {s t : State} (h : Inv s) (ht : Sound t) (ho : onlyParts l s t)
    (hl : decide (Part.port ∈ l) = false := by decide) : Inv t := ht.inv (h.port.congr (ho.same .port hl))

theorem Inv.of_only {l : List Part} {s t : State} (h : Inv s) (ho : onlyParts l s t)
    (hl : (l.all (fun p => decide (p ∉ ([.jrn, .sup, .ack, .prof, .nv] : List Part)))) = true := by decide)
    (hp : decide (Part.port ∈ l) = false := by decide) : Inv t := h.of_sound (h.sound.of_only ho hl) ho hp

theorem Inv.beginPinReset {s : State} (h : Inv s) : Inv (beginPinReset s) := by
  unfold Machine.beginPinReset
  split
  · exact h
  · exact inv_beginReset .pin s

theorem Inv.pinResetOn {s : State} (h : Inv s) (n : Nat) : Inv (pinResetOn n s) := by
  have hdrawn : Inv (drawBit s).2 := h.of_only (only_drawBit s)
  unfold Machine.pinResetOn
  split
  · exact h
  · split
    · exact h.beginPinReset
    · simp only []
      split
      · exact hdrawn.beginPinReset
      · exact hdrawn

theorem Inv.endReset {s : State} (h : Inv s) : Inv (endReset s) := by
  unfold Machine.endReset
  split
  · exact (h.of_only (only_setClk s _)).setPort h.port
  all_goals exact h

theorem only_oscillatorStable (s : State) : onlyParts [.clk] s (oscillatorStable s) := by
  unfold oscillatorStable
  split
  · exact only_setClk s _
  all_goals exact .refl _ s

theorem only_oscillatorStops (s : State) : onlyParts [.clk] s (oscillatorStops s) := by
  unfold oscillatorStops
  split
  · exact only_setClk s _
  all_goals exact .refl _ s

/-- A batch keeps the invariants: a whole one stage by stage, and one that a reset abandons by the reset (R1, R165). -/
theorem Inv.tickBatch {s : State} (h : Inv s) (inp : TickInputs) : Inv (tickBatch inp s) := by
  by_cases hr : s.clk.phase = .running
  · cases hc : inp.cut with
    | none =>
      obtain ⟨t, ht, -, -, hport, -⟩ := batchAdvancesAndReports.1 inp s hr hc
      obtain rfl : Machine.tickBatch inp s = t := Host.Outcome.next.inj ht
      refine Sound.inv ?_ ?_
      · rw [tickBatch_complete hr hc]
        exact (h.sound.batchStart inp).runStages _ inp
      · unfold PortInv
        rw [hport]
        exact h.port
    | some c =>
      have hcut : Machine.tickBatch inp s = beginReset (kindOfReset c.cause) (abandonBatch inp c.point s) := by
        simp [Machine.tickBatch, ticking, hr, hc]
      rw [hcut]
      exact inv_beginReset _ _
  · rw [tickBatch_notTicking hr]
    exact h

/-! ### Steps inside a batch as rows -/

theorem Inv.inBatch {f : State → State} {s : State} (h : Inv s) (hf : Inv (f s)) : Inv (inBatch f s) := by
  unfold Machine.inBatch
  split
  · exact hf
  · exact h

theorem Inv.inStageD {l : List Part} {f : State → State} {s : State} (h : Inv s) (hf : Sound (f s))
    (ho : onlyParts l s (f s)) (hl : decide (Part.port ∈ l) = false := by decide) : Inv (inStageD f s) :=
  h.inBatch (f := fun u => refreshCrit (f u)) ((h.of_sound hf ho hl).of_only (only_refreshCrit _))

theorem only_qualifyLine (n : Fin 16) (s : State) : onlyParts [.fl, .clk] s (qualifyLine n s) :=
  .ite _ (.trans (only_setFl _ _).mono (only_signalWake _ _ _).mono) (.refl _ _)

theorem only_releaseLine (n : Fin 16) (s : State) : onlyParts [.fl] s (releaseLine n s) :=
  .ite _ (only_setFl _ _) (.refl _ _)

theorem only_lateHeartbeat (n : Fin 4) (s : State) : onlyParts [.hb] s (lateHeartbeat n s) :=
  .ite _ (only_setHb _ _) (.refl _ _)

theorem only_silentNode (n : Fin 8) (s : State) : onlyParts [.link] s (silentNode n s) :=
  .ite _ (only_setLink _ _) (.refl _ _)

theorem only_beaconTimer (s : State) : onlyParts [.link] s (beaconTimer s) := .ite _ (only_setLink _ _) (.refl _ _)

theorem only_intakeOne (s : State) : onlyParts [.link] s (intakeOne s) := .ite _ (only_setLink _ _) (.refl _ _)

theorem only_stageClock (w : Bool) (s : State) : onlyParts [.clk] s (stageClock w s) := only_setClk _ _

theorem only_missReference (s : State) : onlyParts [.clk] s (missReference s) := .ite _ (only_setClk _ _) (.refl _ _)

theorem only_compOne (i : Fin 8) (sample : Bool) (wanted : Comp → Comp → Bool) (s : State) :
    onlyParts [.out] s (compOne i sample wanted s) := .ite _ (only_setOut _ _) (.refl _ _)

theorem only_exchangeNow (s : State) : onlyParts [.out] s (exchangeNow s) := .ite _ (only_setOut _ _) (.refl _ _)

theorem only_closedEnds (s : State) : onlyParts [.wd] s (closedEnds s) := by
  unfold closedEnds
  split
  · exact only_setWd _ _
  all_goals exact .refl _ s

theorem only_openEnds (s : State) : onlyParts [.wd] s (openEnds s) := by
  unfold openEnds
  split
  · exact only_setWd _ _
  · exact only_setWd _ _
  all_goals exact .refl _ s

theorem only_finishOp (wanted : NvOp → Bool) (s : State) : onlyParts initParts s (finishOp wanted s) := by
  unfold finishOp
  split
  · exact .refl _ s
  · exact .ite _ (only_stepNv true s) (.refl _ s)

theorem Sound.finishOp {s : State} (h : Sound s) (wanted : NvOp → Bool) : Sound (finishOp wanted s) := by
  unfold Machine.finishOp
  split
  · exact h
  · exact .ite _ (fun _ => h.stepNv true) (fun _ => h)

/-! ### The link between batches as rows -/

theorem only_startBitWake (s : State) : onlyParts [.link, .clk] s (startBitWake s) :=
  .ite _ (.trans (only_setLink _ _).mono (only_signalWake _ _ _).mono) (.refl _ _)

theorem only_lrxLevel (s : State) (x : Bool) : onlyParts [.link, .clk] s (lrxLevel s x) :=
  .ite _ (only_startBitWake s) (only_setLink _ _).mono

/-! ### Every row -/

/-- Every row keeps the invariants; the rows that carry a command frame are left to the port in one. -/
theorem exec_keeps_inv (i : Instr) {s : State} (h : Inv s) : ∃ t, exec i s = .next t ∧ Inv t := by
  cases i <;> refine ⟨_, rfl, ?_⟩
  case tickBatch inp => exact h.tickBatch inp
  case por => exact inv_beginReset .por s
  case pinReset n => exact h.pinResetOn n
  case resetEnd => exact h.endReset
  case oscillatorStart => exact h.of_only (only_oscillatorStable s)
  case mainOscillatorStop => exact h.of_only (only_oscillatorStops s)
  case rejLength start bits => exact h.hostBits start bits
  case rejCrc start f => exact h.hostFrame start f
  case rejFormat start f => exact h.hostFrame start f
  case qualification n => exact h.inBatch (h.of_only (only_qualifyLine n s))
  case lineRelease n => exact h.inBatch (h.of_only (only_releaseLine n s))
  case heartbeatLate n => exact h.inBatch (h.of_only (only_lateHeartbeat n s))
  case silent n => exact h.inBatch (h.of_only (only_silentNode n s))
  case beaconTimer => exact h.inBatch (h.of_only (only_beaconTimer s))
  case intake => exact h.inBatch (h.of_only (only_intakeOne s))
  case windowEvaluation => exact h.inBatch (h.of_only (only_stageClock true s))
  case missingReference => exact h.inBatch (h.of_only (only_missReference s))
  case settleAllowanceEnd => exact h.inBatch (h.of_only (only_compOne _ _ _ s))
  case mismatchQualified => exact h.inBatch (h.of_only (only_compOne _ _ _ s))
  case mismatchWithdrawn => exact h.inBatch (h.of_only (only_compOne _ _ _ s))
  case exchange => exact h.inBatch (h.of_only (only_exchangeNow s))
  case closedPhaseEnd => exact h.inBatch (h.of_only (only_closedEnds s))
  case watchdogLate => exact h.inBatch (h.of_only (only_openEnds s))
  case nvOperationBegin => exact h.inBatch (h.of_sound h.sound.nvBegin (only_nvBegin s))
  case expiry => exact h.inStageD h.sound.stepExpiry (only_stepExpiry s)
  case ackDeadlineExpiry => exact h.inStageD h.sound.stepDeadline (only_stepDeadline s)
  case pulseStart => exact h.inStageD h.sound.stepPulseStart (only_stepPulseStart s)
  case pulseEnd => exact h.inStageD h.sound.stepPulseEnd (only_stepPulseEnd s)
  case cut => exact h.inStageD h.sound.stepCut (only_stepCut s)
  case dwellEnd => exact h.inStageD h.sound.stepDwell (only_stepDwell s)
  case epMinEnd => exact h.inStageD h.sound.stepEpMin (only_stepEpMin s)
  case automaticRelease => exact h.inStageD h.sound.stepAutoRelease (only_stepAutoRelease s)
  case selftestStepCompletion f n => exact h.inStageD (h.sound.stepSelftest f n) (only_stepSelftest f n s)
  case profileLoadCompletion => exact h.inStageD (h.sound.finishOp _) (only_finishOp _ s)
  case archiveWriteCompletion => exact h.inStageD (h.sound.finishOp _) (only_finishOp _ s)
  case archiveErasureCompletion => exact h.inStageD (h.sound.finishOp _) (only_finishOp _ s)
  case commitCompletion => exact h.inStageD (h.sound.finishOp _) (only_finishOp _ s)
  case unlockWindowExpiry => exact h.inStageD h.sound.stepUnlock (only_stepUnlock s)
  case sessionLimitExpiry => exact h.inStageD h.sound.stepSessionLimit (only_stepSessionLimit s)
  case wakeRequest => exact h.inStageD h.sound.stepWake (only_stepWake s)
  case wakingEnd => exact h.inStageD h.sound.stepWakingEnd (only_stepWakingEnd s)
  case peerEventMessage b0 b1 b2 b3 => exact h.of_only (onlyParts.foldl only_lrxLevel (b0 ++ b1 ++ b2 ++ b3) s)
  case startBitWake => exact h.of_only (only_startBitWake s)
  case framingError => exact h.of_only (only_setLink s _)
  case truncated => exact h.of_only (only_setLink s _)
  case earlyRun => exact h.of_only (only_setLink s _)
  case receiverReady => exact h.of_only (only_setLink s _)
  case messageIntoFlight => exact h.of_only (only_setLink s _)
  case messageLeavesFlight => exact h.of_only (only_setLink s _)
  all_goals exact h.commandFrame _ _ _

/-- Settles O58: the command at the front of the queue keeps the invariants (`exec_keeps_inv`), and an idle step changes
nothing. -/
theorem invariantsAreKept : Obligations.InvariantsAreKept := by
  intro s t h hstep
  unfold step at hstep
  split at hstep
  · obtain rfl : s = t := Host.Outcome.next.inj hstep
    exact h
  · rename_i c rest _
    obtain ⟨u, hu, hinv⟩ := exec_keeps_inv c (h.of_only (only_setPending s rest))
    obtain rfl : u = t := Host.Outcome.next.inj (hu.symm.trans hstep)
    exact hinv

/-- Settles O59: right after reset every block holds its reset value. -/
theorem invariantsHoldAtReset : Obligations.InvariantsHoldAtReset := inv_of_resetBlocks rfl rfl rfl rfl rfl rfl

end Sys2Proof.Machine
end

section
/-!
PROOF. What a frame is: a request frame is read back from its 48 bits, and a row of the host port is the frame it carries.
-/

namespace Sys2Proof.Machine

set_option Elab.async false

/-! ### Request frames -/

theorem frameCrcOk_requestFrame (code : Byte) (tag : BitVec 3) (arg : BitVec 24) :
    frameCrcOk (requestFrame code tag arg) = true := by
  simp [frameCrcOk, frameCrc, requestFrame]

theorem frameTag_requestFrame (code : Byte) (tag : BitVec 3) (arg : BitVec 24) :
    frameTag (requestFrame code tag arg) = tag := extract_high tag (0 : BitVec 5) _ (toNat_append_mul _ _)

theorem frameLow5_requestFrame (code : Byte) (tag : BitVec 3) (arg : BitVec 24) :
    frameLow5 (requestFrame code tag arg) = 0 := extract_low tag (0 : BitVec 5) _ (toNat_append_mul _ _)

/-- An argument is its three bytes, byte 2 first (R4). -/
theorem frameArg_requestFrame (code : Byte) (tag : BitVec 3) (arg : BitVec 24) :
    frameArg (requestFrame code tag arg) = arg := by
  apply BitVec.eq_of_toNat_eq
  refine (toNat_append_mul (arg.extractLsb' 16 8 ++ arg.extractLsb' 8 8) (arg.extractLsb' 0 8)).trans ?_
  rw [toNat_append_mul]
  have := arg.isLt
  simp only [BitVec.extractLsb'_toNat, Nat.shiftRight_eq_div_pow]
  omega

/-- A byte is read back from its bits, the most significant one first (R3). -/
theorem byteOfBits_bitsOfByte (b : Byte) : byteOfBits (bitsOfByte b) = b := by
  revert b
  decide

theorem byteOfBits_append (b : Byte) (l : List Bool) : byteOfBits (bitsOfByte b ++ l) = b := by
  have h : byteOfBits (bitsOfByte b ++ l) = byteOfBits (bitsOfByte b) := rfl
  rw [h, byteOfBits_bitsOfByte]

theorem drop_bitsOfByte_append (b : Byte) (n : Nat) (l : List Bool) : (bitsOfByte b ++ l).drop (n + 8) = l.drop n := rfl

/-- Six bytes are read back from their 48 bits, in the order received (R3). -/
theorem frameOfBits_bytes (f : RawFrame) :
    frameOfBits ([f.b0, f.b1, f.b2, f.b3, f.b4, f.b5].flatMap bitsOfByte) = f := by
  simp only [List.flatMap_cons, List.flatMap_nil, frameOfBits]
  rw [drop_bitsOfByte_append _ 0, drop_bitsOfByte_append _ 8, drop_bitsOfByte_append _ 16, drop_bitsOfByte_append _ 24,
    drop_bitsOfByte_append _ 32, drop_bitsOfByte_append _ 0, drop_bitsOfByte_append _ 8, drop_bitsOfByte_append _ 16,
    drop_bitsOfByte_append _ 24, drop_bitsOfByte_append _ 0, drop_bitsOfByte_append _ 8, drop_bitsOfByte_append _ 16,
    drop_bitsOfByte_append _ 0, drop_bitsOfByte_append _ 8, drop_bitsOfByte_append _ 0]
  simp only [List.drop_zero, byteOfBits_append]

/-- A check register that takes in its own content is left at 0 (R5). -/
theorem crcByte_self (r : Byte) : crcByte r r = 0 := by
  unfold crcByte
  rw [BitVec.xor_self]
  decide

/-- The check over bytes and their own check code leaves 0 (R5). -/
theorem crc8_append_self (bytes : List Byte) : crc8 (bytes ++ [crc8 bytes]) = 0 := by
  have h : crc8 (bytes ++ [crc8 bytes]) = crcByte (crc8 bytes) (crc8 bytes) := List.foldl_append
  rw [h, crcByte_self]

/-- Settles O60: the fields are read back from the bytes, the bytes from the bits, and the check register ends on its own code. -/
theorem requestFramesReadBack : Obligations.RequestFramesReadBack := fun code tag arg =>
  ⟨frameCrcOk_requestFrame code tag arg, rfl, frameTag_requestFrame code tag arg, frameLow5_requestFrame code tag arg,
    frameArg_requestFrame code tag arg, frameOfBits_bytes _, crc8_append_self [_, _, _, _, _]⟩

/-! ### Rows as frames -/

theorem rejLength_frame (start : FrameStart) {bits : List Bool} (s : State) (h : bits.length = 48) :
    exec (.rejLength start bits) s = exec (.rejCrc start (frameOfBits bits)) s := by
  have hb : hostBits start bits s = hostFrame start (frameOfBits bits) s := by simp [hostBits, h]
  exact congrArg Host.Outcome.next hb

/-- The address of HBn_CAPT as the argument of its READ_REG (R4). -/
theorem argOf_addrHbCapt (ch : Fin 4) : argOf (addrHbCapt ch) 0 0 = 0x240000 + BitVec.ofNat 24 (ch.val * 0x10000) := by
  revert ch
  decide

/-- Settles O10: each row's meaning hands the port the frame of its command's code; a read's argument is its address and zeros. -/
theorem commandRowsAreTheirFrames : Obligations.CommandRowsAreTheirFrames := by
  refine ⟨fun h arg s => ?commands, fun h addr data s => ?registers, fun h code arg s => ⟨rfl, rfl, rfl⟩, fun _ _ _ => rfl,
    fun start bits s hlen => rejLength_frame start s hlen⟩
  case commands =>
    exact ⟨rfl, rfl, rfl, rfl, rfl, rfl, rfl, rfl, rfl, rfl, rfl, rfl, rfl, rfl, rfl, rfl, rfl, rfl, rfl, rfl, rfl⟩
  case registers =>
    have hread (x : BitVec 24) (a : Byte) (hx : argOf a 0 0 = x) :
        Host.Outcome.next (readFrame h a s) = exec (.rejCommand h 0x01 x) s := by
      rw [← hx]
      rfl
    exact ⟨rfl, rfl, hread _ _ (by decide), hread _ _ (by decide), fun ch => hread _ _ (argOf_addrHbCapt ch), hread _ _ (by decide),
      hread _ _ (by decide), hread _ _ (by decide), hread _ _ (by decide), hread _ _ (by decide)⟩

end Sys2Proof.Machine
end

section
/-!
PROOF. What the port makes of frames: ignored, discarded, out of sequence, retransmitted, rejected after acceptance; and NOP.
-/

namespace Sys2Proof.Machine

set_option Elab.async false

/-! ### Frames that are processed, and frames that are not -/

theorem portOpen_iff (start : FrameStart) (s : State) :
    portOpen start s = true ↔ start ≠ .beforeResetEnd ∧ (s.clk.phase = .starting ∨ s.clk.phase = .running) := by
  simp [portOpen]

/-- At a port that processes frames SDO shows its bits and the frame is processed (R12, R20). -/
theorem onPort_open {start : FrameStart} {s : State} (h : portOpen start s = true) (n : Nat) (process : State → State) :
    onPort start n process s = process (showSdo (sdoBits start n s.port.slot) s) := by
  obtain ⟨hstart, hphase⟩ := (portOpen_iff start s).mp h
  rcases hphase with hp | hp <;> simp [onPort, hstart, hp]

/-- A frame is ignored whole in a reset, or when nCS was asserted before the last reset had ended (R20; log 38). -/
theorem onPort_ignored {start : FrameStart} {s : State} (h : start = .beforeResetEnd ∨ ∃ k, s.clk.phase = .inReset k) (n : Nat)
    (process : State → State) : onPort start n process s = s := by
  rcases h with hstart | ⟨k, hk⟩
  · simp [onPort, hstart]
  · simp [onPort, hk]

/-- A port whose oscillator has stopped shows zeros and processes nothing (R171). -/
theorem onPort_stopped {start : FrameStart} {s : State} (h : s.clk.phase = .stopped) (hs : start ≠ .beforeResetEnd) (n : Nat)
    (process : State → State) : onPort start n process s = showSdo (List.replicate n false) s := by
  simp [onPort, h, hs]

theorem hostBits_discarded (start : FrameStart) {bits : List Bool} (s : State) (h0 : bits.length ≠ 0)
    (h48 : bits.length ≠ 48) : hostBits start bits s = onPort start bits.length rejectLength s := by
  simp [hostBits, h0, h48]

theorem hostBits_ignored {start : FrameStart} {s : State} (h : start = .beforeResetEnd ∨ ∃ k, s.clk.phase = .inReset k)
    (bits : List Bool) : hostBits start bits s = s := by
  unfold hostBits
  split
  · rfl
  · split
    · exact onPort_ignored h _ _
    · exact onPort_ignored h _ _

/-- Settles O5: the phase of the clock unit decides the reset's end, the oscillator's start and stop, and whether the port takes a
frame. -/
theorem resetEndAndOscillator : Obligations.ResetEndAndOscillator := by
  refine ⟨fun k s hk => ?resetEnd, fun s hs => ?start, fun s hr => ?stop, fun start f bits s h => ?ignored⟩
  case resetEnd =>
    have he : endReset s = (s.setClk { s.clk with phase := .starting }).setPort
        { s.port with slot := { noPriorSlot with status := globalStatus s } } := by simp [endReset, hk]
    exact congrArg Host.Outcome.next he
  case start =>
    have he : oscillatorStable s = s.setClk { s.clk with phase := .running } := by simp [oscillatorStable, hs]
    exact congrArg Host.Outcome.next he
  case stop =>
    have he : oscillatorStops s = s.setClk { s.clk with phase := .stopped } := by simp [oscillatorStops, hr]
    refine ⟨_, rfl, he, fun inp => ?_, fun start f hstart => ?_⟩
    · exact congrArg Host.Outcome.next (tickBatch_notTicking (by simp [he]))
    · exact congrArg Host.Outcome.next (onPort_stopped (by simp [he]) hstart 48 _)
  case ignored =>
    exact ⟨congrArg Host.Outcome.next (onPort_ignored h 48 _), congrArg Host.Outcome.next (hostBits_ignored h bits)⟩

/-! ### Answers -/

/-- The status byte does not depend on the slot it is loaded into (R14). -/
theorem globalStatus_answer (tag : BitVec 3) (res : Res) (data : BitVec 24) (s : State) :
    globalStatus (answer tag res data s) = globalStatus s := rfl

/-- The slot is loaded with the status of the state that it is loaded in (R12, R14). -/
theorem answer_port (tag : BitVec 3) (res : Res) (data : BitVec 24) (s : State) :
    (answer tag res data s).port =
      { s.port with slot := { status := globalStatus (answer tag res data s), tag := tag, res := res, data := data } } := by
  rw [globalStatus_answer]
  rfl

theorem only_showSdo (bits : List Bool) (s : State) : onlyParts [.port] s (showSdo bits s) := only_setPort s _

theorem only_answer (tag : BitVec 3) (res : Res) (data : BitVec 24) (s : State) :
    onlyParts [.port] s (answer tag res data s) := only_setPort s _

theorem only_noteRej (r : Res) (s : State) : onlyParts [.port] s (noteRej r s) := only_setPort s _

theorem only_countError (s : State) : onlyParts [.port] s (countError s) := only_setPort s _

theorem only_rejectNew (tag : BitVec 3) (res : Res) (s : State) : onlyParts [.port] s (rejectNew tag res s) :=
  ((only_noteRej res s).trans (only_setPort _ _)).trans (only_answer _ _ _ _)

theorem only_retransmit (s : State) : onlyParts [.port] s (retransmit s) := by
  have h : onlyParts [.port] s (s.setPort { s.port with consec := 0 }) := only_setPort s _
  unfold retransmit
  simp only []
  split
  · exact h.trans (only_answer _ _ _ _)
  · exact h

/-! ### Damaged frames -/

/-- What a counted rejection leaves of the port (R7, R8, R11, R18, R19). -/
theorem countedRejection_port (tag : BitVec 3) (res : Res) (data : BitVec 24) (s : State) :
    (answer tag res data (noteRej res (countError s))).port =
      { s.port with
        consec := satInc s.port.consec, errcnt := satInc s.port.errcnt, lastRej := some res
        slot :=
          { status := globalStatus (answer tag res data (noteRej res (countError s))), tag := tag, res := res
            data := data } } :=
  answer_port tag res data _

theorem only_countedRejection (tag : BitVec 3) (res : Res) (data : BitVec 24) (s : State) :
    onlyParts [.port] s (answer tag res data (noteRej res (countError s))) :=
  ((only_countError s).trans (only_noteRej _ _)).trans (only_answer _ _ _ _)

/-- During a frame that is processed SDO shows the slot and then zeros, or zeros throughout for one begun early (R7, R12). -/
theorem sdoBits_processed {start : FrameStart} (h : start ≠ .beforeResetEnd) (n : Nat) (x : Slot) :
    sdoBits start n x = if start = .early then List.replicate n false
      else (slotBits x).take n ++ List.replicate (n - 48) false := by
  cases start with
  | onTime => rfl
  | early => rfl
  | beforeResetEnd => exact absurd rfl h

theorem frameCrcOk_iff (f : RawFrame) : frameCrcOk f = true ↔ f.b5 = crc8 [f.b0, f.b1, f.b2, f.b3, f.b4] := beq_iff_eq

/-- Settles O11: a frame of another length, with a wrong check code or with format bits goes no further than its rejection. -/
theorem damagedFramesDiscarded : Obligations.DamagedFramesDiscarded := by
  refine ⟨fun start bits s ho h0 h48 => ?length, fun start s => rfl, fun start f s ho hcrc => ?crc,
    fun start f s ho hcrc hlow => ?format⟩
  case length =>
    have he : hostBits start bits s = rejectLength (showSdo (sdoBits start bits.length s.port.slot) s) :=
      (hostBits_discarded start s h0 h48).trans (onPort_open ho _ _)
    refine ⟨_, congrArg Host.Outcome.next he, (only_showSdo _ s).trans (only_countedRejection _ _ _ _), ?_⟩
    rw [← sdoBits_processed ((portOpen_iff start s).mp ho).1]
    exact countedRejection_port _ _ _ _
  case crc =>
    have hbad : frameCrcOk f = false := by simpa using fun h => hcrc ((frameCrcOk_iff f).mp h)
    have he : hostFrame start f s = rejectCrc f (showSdo (sdoBits start 48 s.port.slot) s) := by
      rw [hostFrame, onPort_open ho, processFrame, if_pos hbad]
    exact ⟨_, congrArg Host.Outcome.next he, (only_showSdo _ s).trans (only_countedRejection _ _ _ _),
      countedRejection_port _ _ _ _⟩
  case format =>
    have hgood : ¬ frameCrcOk f = false := by simpa using (frameCrcOk_iff f).mpr hcrc
    have he : hostFrame start f s = rejectFormat f (showSdo (sdoBits start 48 s.port.slot) s) := by
      rw [hostFrame, onPort_open ho, processFrame, if_neg hgood, if_pos (show frameLow5 f ≠ 0 from hlow)]
    exact ⟨_, congrArg Host.Outcome.next he, ((only_showSdo _ s).trans (only_noteRej _ _)).trans (only_answer _ _ _ _),
      answer_port _ _ _ _⟩

/-! ### The tag -/

theorem judgeTag_again {s : State} {tag : BitVec 3} (hs : s.port.synced = true) (h : tag = s.port.lastTag) :
    judgeTag s.port tag = .again := by
  simp [judgeTag, hs, h]

theorem judgeTag_wrong {s : State} {tag : BitVec 3} (hs : s.port.synced = true) (h : tag ≠ s.port.lastTag)
    (h1 : tag ≠ s.port.lastTag + 1) : judgeTag s.port tag = .wrong := by
  rw [judgeTag, if_neg (by simp [hs]), if_neg h1, if_neg h]

/-- Settles O12: the frame is judged by its tag and goes no further than REJ_TAG. -/
theorem wrongTagAnswersLastTag : Obligations.WrongTagAnswersLastTag := by
  intro h code arg s ho hs hlast hnext
  have he : commandFrame h code arg s =
      rejectTag (requestFrame code h.tag arg) (showSdo (sdoBits h.start 48 s.port.slot) s) := by
    rw [commandFrame_open h code arg s ho, judgeTag_wrong hs hlast hnext]
  refine ⟨_, congrArg Host.Outcome.next he, (only_showSdo _ s).trans (only_countedRejection _ _ _ _), ?_⟩
  rw [rejectTag, frameTag_requestFrame]
  exact countedRejection_port _ _ _ _

/-- Settles O13: the frame is judged by its tag and its code and argument are not looked at. -/
theorem retransmissionNeverExecutes : Obligations.RetransmissionNeverExecutes := by
  intro h code arg r s ho hs hlast hstored
  have he : commandFrame h code arg s = retransmit (showSdo (sdoBits h.start 48 s.port.slot) s) := by
    rw [commandFrame_open h code arg s ho, judgeTag_again hs hlast]
  refine ⟨_, congrArg Host.Outcome.next he, (only_showSdo _ s).trans (only_retransmit _), ?_⟩
  have ha : retransmit (showSdo (sdoBits h.start 48 s.port.slot) s) = answer r.tag r.res r.data
      (s.setPort { s.port with consec := 0, sdo := sdoBits h.start 48 s.port.slot }) := by
    simp only [retransmit, showSdo, setPort_port, hstored]
    rfl
  rw [ha]
  exact answer_port _ _ _ _

/-! ### Steps 5 to 8 -/

theorem cmdOf_eq_none {code : Byte} (h : ∀ c, code ≠ cmdCode c) : cmdOf code = none := by
  unfold cmdOf
  rw [List.find?_eq_none]
  intro c _ hc
  exact h c (eq_of_beq hc).symm

/-- What a rejection after acceptance leaves of the port: the rejection is the stored result (R9, R19). -/
theorem rejectNew_port (tag : BitVec 3) (res : Res) (s : State) :
    (rejectNew tag res s).port =
      { s.port with
        lastRej := some res, stored := some { tag := tag, res := res, data := 0 }
        slot := { status := globalStatus (rejectNew tag res s), tag := tag, res := res, data := 0 } } :=
  answer_port tag res 0 _

/-- Settles O14: the checks of steps 5 to 8 are taken in order, and each failure is the same rejection with its own code. -/
theorem rejectedFrameConsumesTag : Obligations.RejectedFrameConsumesTag := by
  intro h code arg r s ho hn hwhy
  have he : commandFrame h code arg s = rejectNew h.tag r (accepted h s) := by
    rw [commandFrame_new h code arg s ho hn]
    rcases hwhy with ⟨hcode, rfl⟩ | ⟨c, rfl, hfail⟩
    · rw [cmdOf_eq_none hcode]
    · rw [cmdOf_cmdCode]
      rcases hfail with ⟨hp, rfl⟩ | ⟨hp, ⟨ha, rfl⟩ | ⟨ha, hx, rfl⟩⟩
      · simp [judgeCommand, hp]
      · simp [judgeCommand, hp, ha]
      · simp [judgeCommand, hp, ha, hx]
  exact ⟨_, congrArg Host.Outcome.next he, (only_accepted h s).trans (only_rejectNew _ _ _), rejectNew_port _ _ _⟩

/-! ### NOP -/

/-- nATTN depends on the records, the running configuration and the journal (R77). -/
theorem computeAttn_of_running {s t : State} (hsrc : t.src = s.src) (hrun : t.prof.running = s.prof.running)
    (hjrn : t.jrn = s.jrn) : computeAttn t = computeAttn s := by
  have hn : notifies t = notifies s := funext fun i => by simp only [notifies, hsrc, hrun]
  simp only [computeAttn, journalAttn, hn, hrun, hjrn]

/-- A command that has touched only the port and a pending unlock step leaves flags that were current as they were. -/
theorem flags_kept {h : FrameHead} {res : Res} {data : BitVec 24} {s t : State} (hd : commandDone [] h res data s t)
    (hu : unlockCancelled s t) (hf : flagsCurrent s) : t.attn = s.attn ∧ t.crit = s.crit := by
  obtain ⟨-, ⟨hattn, hcrit⟩, honly⟩ := hd
  have hsrc : t.src = s.src := honly.same .src
  have hjrn : t.jrn = s.jrn := honly.same .jrn
  have hack : t.ack = s.ack := honly.same .ack
  have hsup : t.sup = s.sup := honly.same .sup
  have hrun : t.prof.running = s.prof.running := by rw [hu, cancelUnlock_prof_running]
  refine ⟨?_, ?_⟩
  · rw [hattn, computeAttn_of_running hsrc hrun hjrn, hf.1]
  · rw [hcrit, hf.2, critNow, critNow, hack, hsup]

/-- A frame at an open port that is accepted as new executes a command that every state permits (R15). -/
theorem executes_of_accepted {c : Cmd} {h : FrameHead} {arg : BitVec 24} {s : State} (ho : portOpen h.start s = true)
    (hn : tagIsNew s h.tag = true) (hp : permitted c s.sup.state (sessionOpen s) = true)
    (ha : argInRange c s.sel.page arg = true) (hx : accessAllowed c (sessionOpen s) arg = true) :
    executes c h arg s = true := by simp [executes, ho, hn, hp, ha, hx]

/-- A command whose rule changes nothing: the port answers, and a pending unlock step is cancelled (R156). -/
theorem command_without_effect {c : Cmd} {h : FrameHead} {arg : BitVec 24} {s : State} {res : Res} {data : BitVec 24}
    (he : executes c h arg s = true) (hc : c ≠ .openSession)
    (ho : runCommand c arg (accepted h s) = { st := accepted h s, res := res, data := data, reset := false }) :
    ∃ t, cmdFrame c h arg s = t ∧ commandDone [] h res data s t ∧ unlockCancelled s t := by
  obtain ⟨t, ht, d⟩ := command_outcome [] _ he hc ho (.refl _ _) (by decide) (.inr fun i => (unitCond_accepted h s i).symm)
  exact ⟨t, ht, d.done, d.prof.trans (cancelUnlock_prof_congr rfl)⟩

/-- Settles O15: NOP's rule changes nothing, so that only what surrounds every executed command is left. -/
theorem nopTouchesOnlyThePort : Obligations.NopTouchesOnlyThePort := by
  intro h s ho hn
  obtain ⟨t, ht, hd, hu⟩ := command_without_effect (c := .nop) (arg := 0) (executes_of_accepted ho hn rfl rfl rfl) nofun rfl
  exact ⟨t, congrArg Host.Outcome.next ht, hd, hu, flags_kept hd hu⟩

end Sys2Proof.Machine
end

section
/-!
PROOF. READ_REG: a plain read changes nothing, and the read-to-clear registers of the link and of the port clear what they hold.
-/

namespace Sys2Proof.Machine

set_option Elab.async false

/-- The registers whose read has a side effect (R177). -/
def effectAddrs : List Byte := [0x06, 0x07, 0x24, 0x25, 0x26, 0x27, 0x30, 0x31, 0x32, 0x33, 0x61]

theorem readEffect_plain {addr : Byte} (h : addr ∉ effectAddrs) (s : State) : readEffect addr s = s := by
  have hne {n : Nat} (hn : addr.toNat = n) (hm : BitVec.ofNat 8 n ∈ effectAddrs) : False := by
    rw [← hn, BitVec.ofNat_toNat, BitVec.setWidth_eq] at hm
    exact h hm
  unfold readEffect
  split
  case h_12 => rfl
  all_goals exact (hne ‹_› (by decide)).elim

/-- The value read depends on nothing of the port that acceptance changes but HP_CONSEC (R18, R19). -/
theorem regValue_accepted (h : FrameHead) (addr : Byte) (s : State) :
    regValue (accepted h s) addr = regValue (s.setPort { s.port with consec := 0 }) addr := rfl

theorem read_executes {h : FrameHead} {addr : Byte} {s : State} (ho : portOpen h.start s = true)
    (hn : tagIsNew s h.tag = true) (ha : regAccess addr ≠ none) : executes .readReg h (addr ++ (0 : Word)) s = true := by
  refine executes_of_accepted ho hn rfl ?_ ?_
  · simp [argInRange]
  · simpa [accessAllowed, Option.isSome_iff_ne_none] using ha

theorem runCommand_read (addr : Byte) (u : State) :
    runCommand .readReg (addr ++ (0 : Word)) u = okWith (addr ++ regValue u addr) (readEffect addr u) := by
  simp [runCommand, doReadReg]

/-- The rows of single reads carry the address and zeros (R4). -/
theorem readFrame_eq (h : FrameHead) (addr : Byte) (s : State) :
    readFrame h addr s = cmdFrame .readReg h (addr ++ (0 : Word)) s := by
  rw [readFrame, argOf_eq]
  rfl

/-- A read without a side effect changes nothing outside the port but what every executed command does (R177). -/
theorem plainRead {h : FrameHead} {addr : Byte} {s : State} (ho : portOpen h.start s = true) (hn : tagIsNew s h.tag = true)
    (ha : regAccess addr ≠ none) (hp : addr ∉ effectAddrs) :
    ∃ t, cmdFrame .readReg h (addr ++ (0 : Word)) s = t ∧
      commandDone [] h .ok (addr ++ regValue (s.setPort { s.port with consec := 0 }) addr) s t ∧ unlockCancelled s t := by
  refine command_without_effect (read_executes ho hn ha) nofun ?_
  rw [runCommand_read, readEffect_plain hp, regValue_accepted]
  rfl

/-! ### The link's registers -/

/-- The conditions of the link's sources are read off its sets, its Node Table and S44 (R43, R47, R49). -/
theorem unitCond_setLink {s : State} {l : Link} (hsets : l.sets = s.link.sets) (hnodes : l.nodes = s.link.nodes)
    (hs44 : l.s44 = s.link.s44) (i : SrcId) : unitCond (s.setLink l) i = unitCond s i := by
  unfold unitCond
  cases srcKind i
  case lc k => exact congrArg (fun v => vget v k != 0) hsets
  case ps n => exact congrArg (fun v => (vget v n).nstate == .silent) hnodes
  case linkIntegrity => exact hs44
  all_goals rfl

/-- A read that clears an item of the link which no condition depends on (R44, R51). -/
theorem linkRead {h : FrameHead} {addr : Byte} {s : State} {l : Link} {x : Word} (ho : portOpen h.start s = true)
    (hn : tagIsNew s h.tag = true) (ha : regAccess addr ≠ none)
    (he : readEffect addr (accepted h s) = (accepted h s).setLink l) (hv : regValue (accepted h s) addr = x)
    (hsets : l.sets = s.link.sets) (hnodes : l.nodes = s.link.nodes) (hs44 : l.s44 = s.link.s44) :
    ∃ t, readFrame h addr s = t ∧ commandDone [.link] h .ok (addr ++ x) s t ∧ unlockCancelled s t ∧ t.link = l := by
  have hcond (i : SrcId) : unitCond s i = unitCond ((accepted h s).setLink l) i := by
    rw [unitCond_setLink (s := accepted h s) hsets hnodes hs44, unitCond_accepted]
  obtain ⟨t, ht, d⟩ := command_outcome [.link] ((accepted h s).setLink l) (read_executes ho hn ha) nofun
    (by rw [runCommand_read, he, hv]; rfl) (only_setLink _ _).mono (by decide) (.inr hcond)
  exact ⟨t, (readFrame_eq h addr s).trans ht, d.done, d.prof.trans (cancelUnlock_prof_congr rfl), d.rest.same .link⟩

/-! ### HPORT_ERRCNT -/

/-- The state with HPORT_ERRCNT cleared (R19). -/
def errcntCleared (s : State) : State := s.setPort { s.port with errcnt := 0 }

/-- What the end of a command leaves of an accepted state, `u` being the state in which the command began to execute. -/
theorem afterRule_accepted {u s : State} (h : FrameHead) (res : Res) (data : BitVec 24)
    (hu : ∀ i, unitCond u i = unitCond s i) :
    commandDone [] h res data s (afterRule u (cancelUnlock (accepted h s)) h.tag res data) ∧
      unlockCancelled s (afterRule u (cancelUnlock (accepted h s)) h.tag res data) := by
  have hend := only_afterRule u (cancelUnlock (accepted h s)) h.tag res data
  have hcancel := only_cancelUnlock (accepted h s)
  have hsrc : (afterRule u (cancelUnlock (accepted h s)) h.tag res data).src = s.src := by
    rw [afterRule_src_same, cancelUnlock_src, accepted_src]
    intro i
    rw [unitCond_cancelUnlock, unitCond_accepted, hu]
  refine ⟨⟨?_, flagsCurrent_afterRule _ _ _ _ _, fun p hp => ?_⟩, ?_⟩
  · rw [answered, afterRule_port, cancelUnlock_port, accepted_port]
  · by_cases hs : p = .src
    · subst hs
      exact hsrc
    · have hin (l : List Part) (hl : ∀ q ∈ l, q = .src ∨ q ∈ ([.port, .attn, .crit, .prof] : List Part)) : p ∉ l := fun hm =>
        (hl p hm).elim hs hp
      exact ((only_accepted h s p (hin _ (by decide))).trans (hcancel p (hin _ (by decide)))).trans
        (hend p (hin _ (by decide)))
  · have hprof : (afterRule u (cancelUnlock (accepted h s)) h.tag res data).prof = (cancelUnlock (accepted h s)).prof :=
      hend.same .prof
    exact hprof.trans (cancelUnlock_prof_congr rfl)

/-- The read of HPORT_ERRCNT leaves what an accepted command without an effect leaves of a port whose count is cleared (R19). -/
theorem errcntRead {h : FrameHead} {s : State} (ho : portOpen h.start s = true) (hn : tagIsNew s h.tag = true) :
    ∃ t, readFrame h 0x61 s = t ∧ commandDone [] h .ok ((0x61 : Byte) ++ s.port.errcnt) (errcntCleared s) t ∧
      unlockCancelled s t := by
  have hrule : runCommand .readReg ((0x61 : Byte) ++ (0 : Word)) (accepted h s) =
      okWith ((0x61 : Byte) ++ s.port.errcnt) (accepted h (errcntCleared s)) := runCommand_read _ _
  obtain ⟨hdone, hunlock⟩ := afterRule_accepted (u := accepted h s) (s := errcntCleared s) h .ok
    ((0x61 : Byte) ++ s.port.errcnt) (fun i => unitCond_accepted h s i)
  refine ⟨_, ?_, hdone, hunlock.trans (cancelUnlock_prof_congr rfl)⟩
  rw [readFrame_eq, cmdFrame_executes (read_executes ho hn (by decide)), execute_other _ hrule rfl nofun]
  rfl

/-- Settles O17: a plain read by `plainRead`, the link's registers by `linkRead`, and HPORT_ERRCNT by `errcntRead`. -/
theorem registerReads : Obligations.RegisterReads := by
  refine ⟨fun h addr s ho hn ha hp => ?plain, fun h s ho hn => ?clearing⟩
  case plain =>
    obtain ⟨t, ht, hd, hu⟩ := plainRead ho hn ha hp
    exact ⟨t, congrArg Host.Outcome.next ht, hd, hu, flags_kept hd hu⟩
  case clearing =>
    have hlink (addr : Byte) {l : Link} {x : Word} (ha : regAccess addr ≠ none)
        (he : readEffect addr (accepted h s) = (accepted h s).setLink l) (hv : regValue (accepted h s) addr = x)
        (hsets : l.sets = s.link.sets) (hnodes : l.nodes = s.link.nodes) (hs44 : l.s44 = s.link.s44) :
        ∃ t, Host.Outcome.next (readFrame h addr s) = (.next t : Host.Outcome State Fault Refusal) ∧
          commandDone [.link] h .ok (addr ++ x) s t ∧ unlockCancelled s t ∧ t.link = l := by
      obtain ⟨t, ht, hrest⟩ := linkRead ho hn ha he hv hsets hnodes hs44
      exact ⟨t, congrArg Host.Outcome.next ht, hrest⟩
    refine ⟨hlink 0x30 (by decide) rfl rfl rfl rfl rfl, hlink 0x31 (by decide) rfl rfl rfl rfl rfl,
      hlink 0x32 (by decide) rfl rfl rfl rfl rfl, hlink 0x33 (by decide) rfl rfl rfl rfl rfl, ?_⟩
    obtain ⟨t, ht, hrest⟩ := errcntRead ho hn
    exact ⟨t, congrArg Host.Outcome.next ht, hrest⟩

end Sys2Proof.Machine
end

section
/-!
PROOF. Outputs and flags: the commanded levels of each state, nATTN with its sum, nCRIT and the GLOBAL STATUS byte.
-/

namespace Sys2Proof.Machine

set_option Elab.async false

/-! ### The commanded levels -/

/-- The commanded levels outside INIT: PWREN, nHRST, EP1, EP0 and the four SSO lines (R140). -/
def levelWord (pwren nhrst ep1 ep0 : Bool) (sso : BitVec 4) : BitVec 8 :=
  (bit pwren : BitVec 1) ++ (bit nhrst : BitVec 1) ++ (bit ep1 : BitVec 1) ++ (bit ep0 : BitVec 1) ++ sso

theorem levelWord_sso (pwren nhrst ep1 ep0 : Bool) (sso : BitVec 4) (n : Fin 4) :
    (levelWord pwren nhrst ep1 ep0 sso).getLsbD n.val = sso.getLsbD n.val := by
  revert pwren nhrst ep1 ep0 sso n
  decide

theorem levelWord_pins (pwren nhrst ep1 ep0 : Bool) (sso : BitVec 4) :
    (levelWord pwren nhrst ep1 ep0 sso).getLsbD 4 = ep0 ∧ (levelWord pwren nhrst ep1 ep0 sso).getLsbD 5 = ep1 ∧
      (levelWord pwren nhrst ep1 ep0 sso).getLsbD 6 = nhrst ∧ (levelWord pwren nhrst ep1 ep0 sso).getLsbD 7 = pwren := by
  revert pwren nhrst ep1 ep0 sso
  decide

/-- In INIT every output holds its reset level (R141). -/
theorem commandedLevels_init {u : Supervisor} (h : u.state = .init) (c : EpCfg) (p : Pair) : commandedLevels c u p = 0 := by
  simp [commandedLevels, h, resetLevels]

/-- Outside INIT the outputs are commanded one by one (R140, R141). -/
theorem commandedLevels_driven {u : Supervisor} (h : u.state ≠ .init) (c : EpCfg) (p : Pair) :
    commandedLevels c u p = levelWord (pwrenLevel u.state u.powerCut) (nhrstLevel u.state u.hostReset) (pairLevels c p).2
      (pairLevels c p).1 (ssoLevels u.state u.active) := by
  unfold commandedLevels
  split
  · exact absurd ‹_› h
  · rfl

theorem ssoLevels_bit (x : SupState) (a : ActivePlan) (n : Fin 4) :
    (ssoLevels x a).getLsbD n.val =
      match x with
      | .init => false
      | .lockdown => false
      | .safe => !a.ssoMask.getLsbD n.val
      | .normal => true
      | .alert => true
      | .standby => true
      | .waking => true := by
  have hall : ∀ m : Fin 4, (0xF : BitVec 4).getLsbD m.val = true := by decide
  cases x
  case safe => simp [ssoLevels, n.isLt]
  case init => simp [ssoLevels]
  case lockdown => simp [ssoLevels]
  all_goals exact hall n

/-- nHRST is asserted in INIT and LOCKDOWN, and during a pulse in SAFE (R141). -/
theorem nhrstLevel_low_iff (x : SupState) (r : HostReset) :
    nhrstLevel x r = false ↔ x = .init ∨ x = .lockdown ∨ x = .safe ∧ ∃ stop, r = .pulsing stop := by
  cases x
  case safe => cases r <;> simp [nhrstLevel]
  all_goals simp [nhrstLevel]

/-- PWREN is deasserted in INIT and LOCKDOWN, and by a power cut in SAFE (R141). -/
theorem pwrenLevel_low_iff (x : SupState) (r : PowerCut) :
    pwrenLevel x r = false ↔ x = .init ∨ x = .lockdown ∨ x = .safe ∧ r = .cut := by
  cases x
  case safe => cases r <;> simp [pwrenLevel]
  all_goals simp [pwrenLevel]

/-- The forms of the error pair (R142). -/
theorem pairLevels_form (c : EpCfg) (p : Pair) :
    pairLevels c p =
      match p, c.proto with
      | .reset, _ => (false, false)
      | .static, _ => (true, false)
      | .antiphase phaseA _ _, _ => (phaseA, !phaseA)
      | .fault, .static => (false, true)
      | .fault, .antiphase => (false, false) := by
  cases p
  case fault => cases h : c.proto <;> simp [pairLevels, h]
  all_goals rfl

/-! ### nATTN -/

/-- The first index in ascending order that has a property is the least that has it. -/
theorem find?_finRange_eq_some_iff {n : Nat} (p : Fin n → Bool) (i : Fin n) :
    (List.finRange n).find? p = some i ↔ p i = true ∧ ∀ j, p j = true → i.val ≤ j.val := by
  have hleast {i : Fin n} (h : (List.finRange n).find? p = some i) : p i = true ∧ ∀ j, p j = true → i.val ≤ j.val := by
    obtain ⟨hi, before, after, hl, hbefore⟩ := List.find?_eq_some_iff_append.mp h
    refine ⟨hi, fun j hj => ?_⟩
    have hsorted := List.pairwise_lt_finRange n
    have hmem := List.mem_finRange j
    rw [hl] at hsorted hmem
    rcases List.mem_append.mp hmem with hm | hm
    · simpa [hj] using hbefore j hm
    · rcases List.mem_cons.mp hm with rfl | hm
      · exact Nat.le_refl _
      · exact Nat.le_of_lt ((List.pairwise_cons.mp (List.pairwise_append.mp hsorted).2.1).1 j hm)
  refine ⟨hleast, fun ⟨hi, hmin⟩ => ?_⟩
  cases hf : (List.finRange n).find? p with
  | none => exact absurd hi (List.find?_eq_none.mp hf i (List.mem_finRange i))
  | some k =>
    obtain ⟨hk, hkmin⟩ := hleast hf
    exact congrArg some (Fin.ext (Nat.le_antisymm (hkmin i hi) (hmin k hk)))

theorem notifies_iff (s : State) (i : SrcId) :
    notifies s i = true ↔ (vget s.src i).state ≠ .quiet ∧ (vget s.prof.running.desc i).notify = true := by
  unfold notifies isLatched
  cases (vget s.src i).state <;> simp

theorem journalAttn_iff (s : State) :
    journalAttn s = true ↔
      s.prof.running.jrn.attnLevel ≠ 0 ∧ s.prof.running.jrn.attnLevel.toNat ≤ s.jrn.recs.length := by
  simp [journalAttn]

theorem computeAttn_asserted_iff (s : State) :
    (computeAttn s).asserted = true ↔ (∃ i, notifies s i = true) ∨ journalAttn s = true := by
  simp [computeAttn]

/-- The sources that notify, in ascending order (R77). -/
def notifiers (s : State) : List SrcId := (List.finRange 56).filter (notifies s)

theorem mem_notifiers (s : State) (i : SrcId) : i ∈ notifiers s ↔ notifies s i = true := by simp [notifiers]

theorem notifiers_nodup (s : State) : (notifiers s).Nodup := (List.nodup_finRange 56).filter _

theorem computeAttn_count (s : State) : (computeAttn s).count = (notifiers s).length := List.countP_eq_length_filter

theorem computeAttn_lowest_eq_none_iff (s : State) : (computeAttn s).lowest = none ↔ ∀ i, ¬ notifies s i = true := by
  simp [computeAttn]

/-! ### nCRIT and the status byte -/

theorem critNow_iff (s : State) : critNow s = true ↔ s.ack.req ≠ none ∨ s.sup.state = .lockdown := by
  simp [critNow, Option.isSome_iff_ne_none]

/-- A status byte from its state code and its five flags (R14). -/
def statusByte (x : BitVec 3) (attn crit sess jrn hport : Bool) : Byte :=
  x ++ (bit attn : BitVec 1) ++ (bit crit : BitVec 1) ++ (bit sess : BitVec 1) ++ (bit jrn : BitVec 1) ++
    (bit hport : BitVec 1)

theorem statusByte_fields (x : BitVec 3) (attn crit sess jrn hport : Bool) :
    (statusByte x attn crit sess jrn hport).extractLsb' 5 3 = x ∧ (statusByte x attn crit sess jrn hport).getLsbD 4 = attn ∧
      (statusByte x attn crit sess jrn hport).getLsbD 3 = crit ∧ (statusByte x attn crit sess jrn hport).getLsbD 2 = sess ∧
      (statusByte x attn crit sess jrn hport).getLsbD 1 = jrn ∧ (statusByte x attn crit sess jrn hport).getLsbD 0 = hport := by
  revert x attn crit sess jrn hport
  decide

theorem globalStatus_eq (s : State) :
    globalStatus s = statusByte (stateCode s.sup.state) s.attn.asserted s.crit (sessionOpen s) (!s.jrn.recs.isEmpty)
      (hportFault s.port) := rfl

theorem sessionOpen_iff (s : State) : sessionOpen s = true ↔ ∃ due p, s.prof.session = .opn due p := by
  unfold sessionOpen
  cases s.prof.session <;> simp

theorem hportFault_iff (p : HostPort) : hportFault p = true ↔ 4 ≤ p.consec.toNat := by simp [hportFault]

/-- Settles O7: the levels output by output, nATTN from the sources that notify, and the status byte field by field. -/
theorem outputsAndFlagsByState : Obligations.OutputsAndFlagsByState := by
  refine ⟨fun c u p => ?levels, fun s => ?attn, fun s => ?status⟩
  case levels =>
    by_cases hi : u.state = .init
    · rw [commandedLevels_init hi]
      simp [hi]
    · obtain ⟨hep0, hep1, hnhrst, hpwren⟩ := levelWord_pins (pwrenLevel u.state u.powerCut)
        (nhrstLevel u.state u.hostReset) (pairLevels c p).2 (pairLevels c p).1 (ssoLevels u.state u.active)
      rw [commandedLevels_driven hi, hep0, hep1, hnhrst, hpwren, if_neg hi, nhrstLevel_low_iff, pwrenLevel_low_iff]
      exact ⟨fun n => (levelWord_sso _ _ _ _ _ n).trans (ssoLevels_bit _ _ n), pairLevels_form c p, Iff.rfl, Iff.rfl⟩
  case attn =>
    simp only [← notifies_iff, ← journalAttn_iff]
    exact ⟨computeAttn_asserted_iff s, ⟨notifiers s, notifiers_nodup s, mem_notifiers s, computeAttn_count s⟩,
      find?_finRange_eq_some_iff (notifies s), computeAttn_lowest_eq_none_iff s⟩
  case status =>
    obtain ⟨hstate, hattn, hcrit, hsess, hjrn, hport⟩ := statusByte_fields (stateCode s.sup.state) s.attn.asserted s.crit
      (sessionOpen s) (!s.jrn.recs.isEmpty) (hportFault s.port)
    rw [globalStatus_eq, hstate, hattn, hcrit, hsess, hjrn, hport]
    exact ⟨critNow_iff s, rfl, rfl, rfl, sessionOpen_iff s, by simp, hportFault_iff s.port⟩

end Sys2Proof.Machine
end

section
/-!
PROOF. READ_REG of TICK_LO, TICK_HI and HBn_CAPT: the capture of the tick that is held and released, and the release of a FROZEN
channel.
-/

namespace Sys2Proof.Machine

set_option Elab.async false

/-! ### TICK_LO and TICK_HI -/

/-- TICK_HI reads the held capture, and the high half of the tick without one (R171). -/
theorem viewTickHi_eq (c : Clock) : viewTickHi c = c.hiCapture.getD (c.tick.extractLsb' 16 16) := by
  unfold viewTickHi
  cases c.hiCapture <;> rfl

/-- Only the clock monitor's condition is read off the clock unit (R172). -/
theorem unitCond_setClk {s : State} {c : Clock} (hmon : c.monCond = s.clk.monCond) (i : SrcId) :
    unitCond (s.setClk c) i = unitCond s i := by
  unfold unitCond
  cases srcKind i
  case clockMonitor => exact congrArg Option.isSome hmon
  all_goals rfl

/-- A read whose side effect changes the clock unit alone (R171, R177). -/
theorem clockRead {h : FrameHead} {addr : Byte} {s : State} {c : Clock} {x : Word} (ho : portOpen h.start s = true)
    (hn : tagIsNew s h.tag = true) (ha : regAccess addr ≠ none)
    (he : readEffect addr (accepted h s) = (accepted h s).setClk c) (hv : regValue (accepted h s) addr = x)
    (hmon : c.monCond = s.clk.monCond) :
    ∃ t, readFrame h addr s = t ∧ commandDone [.clk] h .ok (addr ++ x) s t ∧ unlockCancelled s t ∧ t.clk = c := by
  have hcond (i : SrcId) : unitCond s i = unitCond ((accepted h s).setClk c) i := by
    rw [unitCond_setClk (s := accepted h s) hmon, unitCond_accepted]
  obtain ⟨t, ht, d⟩ := command_outcome [.clk] ((accepted h s).setClk c) (read_executes ho hn ha) nofun
    (by rw [runCommand_read, he, hv]; rfl) (only_setClk _ _).mono (by decide) (.inr hcond)
  exact ⟨t, (readFrame_eq h addr s).trans ht, d.done, d.prof.trans (cancelUnlock_prof_congr rfl), d.rest.same .clk⟩

/-! ### HBn_CAPT -/

theorem regValue_hbCapt (ch : Fin 4) (s : State) : regValue s (addrHbCapt ch) = (vget s.hb ch).capt := by
  fin_cases ch <;> rfl

theorem readEffect_hbCapt (ch : Fin 4) (s : State) : readEffect (addrHbCapt ch) s = releaseChannel ch s := by
  fin_cases ch <;> rfl

theorem regAccess_hbCapt (ch : Fin 4) : regAccess (addrHbCapt ch) ≠ none := by
  revert ch
  decide

theorem hbRelease_eq (u : HbUnit) :
    hbRelease u = if u.state = .frozen then { u with state := .arming, counter := 0 } else u := by
  unfold hbRelease
  split <;> rename_i hu <;> simp [hu]

/-- Settles O16: TICK_LO and TICK_HI by `clockRead`, and HBn_CAPT as a command that changes its channel alone. -/
theorem capturesHeldAndReleased : Obligations.CapturesHeldAndReleased := by
  refine ⟨fun h s ho hn => ⟨?low, ?high⟩, fun h ch s ho hn => ?capt⟩
  case low =>
    obtain ⟨t, ht, hrest⟩ := clockRead (addr := 0x06) ho hn (by decide) rfl rfl rfl
    exact ⟨t, congrArg Host.Outcome.next ht, hrest⟩
  case high =>
    obtain ⟨t, ht, hrest⟩ := clockRead (addr := 0x07) ho hn (by decide) rfl (viewTickHi_eq s.clk) rfl
    exact ⟨t, congrArg Host.Outcome.next ht, hrest⟩
  case capt =>
    obtain ⟨t, ht, d⟩ := command_outcome [.hb, .src] (releaseChannel ch (accepted h s))
      (read_executes ho hn (regAccess_hbCapt ch)) nofun
      (by rw [runCommand_read, readEffect_hbCapt, regValue_hbCapt]; rfl) (only_setHb _ _).mono (by decide) (.inl (by simp))
    have hhb : t.hb = vset s.hb ch (hbRelease (vget s.hb ch)) := d.rest.same .hb
    refine ⟨t, congrArg Host.Outcome.next ((readFrame_eq h _ s).trans ht), d.done,
      d.prof.trans (cancelUnlock_prof_congr rfl), d.srcf, ?_, fun m hm => ?_⟩
    · rw [hhb, vget_vset_same, hbRelease_eq]
    · rw [hhb, vget_vset_ne _ _ _ _ hm]

end Sys2Proof.Machine
end

section
/-!
PROOF. Units of Stage A as rows: a fault line qualifies and releases, a heartbeat channel is late, and the clock monitor judges its
windows.
-/

namespace Sys2Proof.Machine

set_option Elab.async false

theorem inBatch_running {f : State → State} {s : State} (hr : s.clk.phase = .running) : inBatch f s = f s :=
  if_pos (by simp [ticking, hr])

/-! ### Fault lines -/

theorem lineStep_sampled {x : SupState} {c : FlCfg} (h : flSampled x c = true) (level : Bool) (u : FlUnit) :
    lineStep x c level u = flStep c level u := if_pos h

/-- The active sample completes a qualification in two cases (R25). -/
theorem lineQualifies_active {c : FlCfg} {u : FlUnit}
    (h : u.state = .inactive ∧ c.filt = 0 ∨ u.state = .qualifying ∧ c.filt.toNat ≤ u.count) :
    lineQualifies c c.activeHigh u = true := by
  rcases h with ⟨hu, hf⟩ | ⟨hu, hf⟩ <;> simp [lineQualifies, hu, hf]

/-- The inactive sample completes a release in two cases (R26). -/
theorem lineReleases_inactive {c : FlCfg} {u : FlUnit}
    (h : u.state = .asserted ∧ c.filt = 0 ∨ u.state = .releasing ∧ c.filt.toNat ≤ u.count) :
    lineReleases c (!c.activeHigh) u = true := by
  rcases h with ⟨hu, hf⟩ | ⟨hu, hf⟩ <;> simp [lineReleases, hu, hf]

/-- What a line is after the sample that completes its qualification (R25, R27, R28, R29). -/
structure LineQualified (c : FlCfg) (u v : FlUnit) : Prop where
  state : v.state = if c.mode = .level then .asserted else .spent
  count : v.count = 0
  level : v.level = c.activeHigh
  cond : flCond v = true
  detail : u.hold = .none → v.detail = flDetail c

theorem flStep_qualifies {c : FlCfg} {u : FlUnit} (h : lineQualifies c c.activeHigh u = true) :
    LineQualified c u (flStep c c.activeHigh u) := by
  obtain ⟨hlevel, hactive, -, hhold, hdetail⟩ := flStep_sampled c c.activeHigh u
  obtain ⟨hstate, hcount⟩ := (hactive rfl).1 h
  refine ⟨hstate, hcount, hlevel, ?_, fun hu => by rw [hdetail, if_pos ⟨h, .inr (by simp [hu])⟩]⟩
  cases hm : c.mode with
  | level => simp [flCond, hstate, hm]
  | pulse =>
    have hset : (flStep c c.activeHigh u).hold ≠ .none := by
      rw [hhold]
      by_cases hw : u.hold = .waiting <;> simp [h, hm, hw]
    simp [flCond, hset]

/-- What a line is after the sample that completes its release (R26). -/
structure LineReleased (c : FlCfg) (u v : FlUnit) : Prop where
  state : v.state = .inactive
  count : v.count = 0
  level : v.level = !c.activeHigh
  cond : u.hold = .none → flCond v = false

theorem flStep_releases {c : FlCfg} {u : FlUnit} (h : lineReleases c (!c.activeHigh) u = true) :
    LineReleased c u (flStep c (!c.activeHigh) u) := by
  obtain ⟨hlevel, -, hinactive, hhold, -⟩ := flStep_sampled c (!c.activeHigh) u
  obtain ⟨hstate, hcount⟩ := (hinactive (by simp)).1 h
  have hno : lineQualifies c (!c.activeHigh) u = false := by simp [lineQualifies]
  exact ⟨hstate, hcount, hlevel, fun hu => by simp [flCond, hstate, hhold, hno, hu]⟩

theorem qualifyLine_eq {n : Fin 16} {s : State} (hs : flSampled s.sup.state (vget s.prof.running.fl n) = true)
    (hq : lineQualifies (vget s.prof.running.fl n) (vget s.prof.running.fl n).activeHigh (vget s.fl n) = true) :
    qualifyLine n s = signalWake s.sup.state true (s.setFl (vset s.fl n
      (flStep (vget s.prof.running.fl n) (vget s.prof.running.fl n).activeHigh (vget s.fl n)))) := by
  unfold qualifyLine
  simp only []
  rw [lineStep_sampled hs, flQualifies_step, if_pos hq]

theorem releaseLine_eq {n : Fin 16} {s : State} (hs : flSampled s.sup.state (vget s.prof.running.fl n) = true)
    (hr : lineReleases (vget s.prof.running.fl n) (!(vget s.prof.running.fl n).activeHigh) (vget s.fl n) = true)
    (hst : (vget s.fl n).state = .asserted ∨ (vget s.fl n).state = .releasing) :
    releaseLine n s = s.setFl (vset s.fl n
      (flStep (vget s.prof.running.fl n) (!(vget s.prof.running.fl n).activeHigh) (vget s.fl n))) := by
  unfold releaseLine
  simp only []
  rw [lineStep_sampled hs, if_pos ⟨hst, (flStep_releases hr).state⟩]

theorem signalWake_fl (x : SupState) (w : Bool) (s : State) : (signalWake x w s).fl = s.fl := (only_signalWake x w s).same .fl

theorem signalWake_clk (x : SupState) (s : State) :
    (signalWake x true s).clk = if x = .standby then { s.clk with wakeReq := true } else s.clk := by
  unfold signalWake
  by_cases hx : x = .standby <;> simp [hx]

/-- Settles O34: the line's step by `flStep_qualifies` and `flStep_releases`, every other line by the row's frame. -/
theorem lineQualifiesAndReleases : Obligations.LineQualifiesAndReleases := by
  refine ⟨fun n s hr hs ht => ?qualification, fun n s hr hs ht => ?release⟩
  case qualification =>
    have hq := lineQualifies_active ht
    have hv := flStep_qualifies hq
    have hfl := congrArg State.fl (qualifyLine_eq hs hq)
    rw [signalWake_fl, setFl_fl] at hfl
    refine ⟨_, congrArg Host.Outcome.next (inBatch_running hr), only_qualifyLine n s, ?_⟩
    rw [hfl, vget_vset_same]
    refine ⟨hv.state, hv.count, hv.level, hv.cond, hv.detail, fun m hm => vget_vset_ne _ _ _ _ hm, ?_⟩
    rw [qualifyLine_eq hs hq, signalWake_clk, setFl_clk]
  case release =>
    have hv := flStep_releases (lineReleases_inactive ht)
    have hfl := congrArg State.fl (releaseLine_eq hs (lineReleases_inactive ht) (ht.imp And.left And.left))
    rw [setFl_fl] at hfl
    refine ⟨_, congrArg Host.Outcome.next (inBatch_running hr), only_releaseLine n s, ?_⟩
    rw [hfl, vget_vset_same]
    exact ⟨hv.state, hv.count, hv.level, hv.cond, fun m hm => vget_vset_ne _ _ _ _ hm⟩

/-! ### Heartbeat channels and the clock monitor -/

/-- A sample equal to the reference, or without one, is no edge (R32). -/
theorem edgeCounted_getD (c : HbCfg) (u : HbUnit) : edgeCounted c (u.ref.getD false) u = false := by
  cases hu : u.ref with
  | none => simp [edgeCounted, hu]
  | some r => cases r <;> simp [edgeCounted, hu]

theorem toNat_late (n : Nat) : (BitVec.ofNat 8 (128 + min n 127)).toNat = 128 + min n 127 := by
  rw [BitVec.toNat_ofNat]
  omega

/-- Settles O35: the late sample by `hbStep_sampled`, and the clock monitor's two steps by their cases. -/
theorem lateHeartbeatAndClockMonitor : Obligations.LateHeartbeatAndClockMonitor := by
  refine ⟨fun n s hr hu hmax => ?late, fun s hr => ?window, fun s hr hw => ?missing⟩
  case late =>
    obtain ⟨-, -, -, hrunning⟩ := hbStep_sampled (vget s.prof.running.hb n) ((vget s.hb n).ref.getD false) (vget s.hb n)
    obtain ⟨-, -, hlate, -⟩ := hrunning hu
    have hv := hlate (edgeCounted_getD _ _) hmax
    have hrow : lateHeartbeat n s = s.setHb (vset s.hb n (hbStep (vget s.prof.running.hb n)
        ((vget s.hb n).ref.getD false) (vget s.hb n))) := if_pos ⟨hu, by rw [hv]⟩
    refine ⟨_, congrArg Host.Outcome.next (inBatch_running hr), only_lateHeartbeat n s, ?_⟩
    rw [hrow, setHb_hb, vget_vset_same, hv]
    exact ⟨fun m hm => vget_vset_ne _ _ _ _ hm, rfl, rfl, rfl, rfl, toNat_late _⟩
  case window => exact ⟨_, congrArg Host.Outcome.next (inBatch_running hr), rfl⟩
  case missing =>
    have hmiss : clockMissing ≤ s.clk.winCount + 1 := Nat.succ_le_succ hw
    refine ⟨_, congrArg Host.Outcome.next (inBatch_running hr), ?_⟩
    simp [missReference, stageClock, clockStep, hmiss]

end Sys2Proof.Machine
end

section
/-!
PROOF. STANDBY and WAKING: entry into STANDBY block by block, the beginning of WAKING by command and by a wake request, and its
end in NORMAL.
-/

namespace Sys2Proof.Machine

set_option Elab.async false

theorem inStageD_running {f : State → State} {s : State} (hr : s.clk.phase = .running) :
    inStageD f s = refreshCrit (f s) := if_pos (by simp [ticking, hr])

/-! ### The beginning of WAKING -/

@[simp] theorem beginWaking_sup (s : State) : (beginWaking s).sup = { s.sup with state := .waking } := by
  simp [beginWaking]

@[simp] theorem beginWaking_jrn (s : State) :
    (beginWaking s).jrn = (writeRec (.state s.sup.state .waking) s).jrn := by
  simp [beginWaking]

@[simp] theorem beginWaking_prof (s : State) : (beginWaking s).prof = (cancelUnlock s).prof := by
  simp [beginWaking]

@[simp] theorem beginWaking_clk (s : State) :
    (beginWaking s).clk = { s.clk with wakeReq := false, wakingDue := some (addTicks s.now 20) } := by
  simp [beginWaking, wakingTicks]

@[simp] theorem beginWaking_link (s : State) : (beginWaking s).link = { s.link with pendingTx := none } := by
  simp [beginWaking, linkWaking]

theorem stepWake_eq {s : State} (hs : s.sup.state = .standby) (hw : s.clk.wakeReq = true) : stepWake s = beginWaking s :=
  if_pos ⟨hs, hw⟩

/-! ### The end of WAKING -/

theorem wdAfterWaking_eq (c : WdCfg) (now : Tick) (w : Watchdog) :
    wdAfterWaking c now w = if w.phase = .held ∨ w.phase = .off ∧ c.enable = true then
      { w with phase := .initial (addTicks now (tenMsTicks c.initial)) } else w := by
  unfold wdAfterWaking
  cases w.phase <;> simp [wdInitial]

@[simp] theorem endWaking_sup (s : State) : (endWaking s).sup = { s.sup with state := .normal } := by
  simp [endWaking, armHeartbeats]

@[simp] theorem endWaking_jrn (s : State) : (endWaking s).jrn = (writeRec (.state s.sup.state .normal) s).jrn := by
  simp only [endWaking, armHeartbeats, setHb_jrn, setWd_jrn, changeState_jrn]
  exact writeRec_jrn_congr _ rfl rfl rfl rfl

@[simp] theorem endWaking_prof (s : State) : (endWaking s).prof = (cancelUnlock s).prof := by
  simp only [endWaking, armHeartbeats, setHb_prof, setWd_prof, changeState_prof]
  exact cancelUnlock_prof_congr rfl

@[simp] theorem endWaking_clk (s : State) : (endWaking s).clk = { s.clk with wakingDue := none } := by
  simp [endWaking, armHeartbeats]

theorem hbArmIfEnabled_eq (c : HbCfg) (u : HbUnit) :
    hbArmIfEnabled c u = if c.enable then { u with state := .arming, counter := 0, ref := none } else u := rfl

/-- A state change leaves the running configuration (R158). -/
@[simp] theorem changeState_running (x : SupState) (s : State) : (changeState x s).prof.running = s.prof.running := by
  rw [changeState_prof, cancelUnlock_prof_running]

theorem armHeartbeats_hb (s : State) (i : Fin 4) :
    vget (armHeartbeats s).hb i = if (vget s.prof.running.hb i).enable then
      { (vget s.hb i) with state := .arming, counter := 0, ref := none } else vget s.hb i := by
  rw [armHeartbeats, setHb_hb, vget_vmap, hbArmIfEnabled_eq]

theorem endWaking_hb (s : State) (i : Fin 4) :
    vget (endWaking s).hb i = if (vget s.prof.running.hb i).enable then
      { (vget s.hb i) with state := .arming, counter := 0, ref := none } else vget s.hb i := by
  simp [endWaking, armHeartbeats_hb]

theorem endWaking_wd (s : State) :
    (endWaking s).wd = if s.wd.phase = .held ∨ s.wd.phase = .off ∧ s.prof.running.wd.enable = true then
      { s.wd with phase := .initial (addTicks s.now (tenMsTicks s.prof.running.wd.initial)) } else s.wd := by
  simp [endWaking, armHeartbeats, wdAfterWaking_eq, State.now]

theorem stepWakingEnd_eq {s : State} {due : Tick} (hs : s.sup.state = .waking) (hw : s.clk.wakingDue = some due)
    (hd : isDue s.now due = true) : stepWakingEnd s = endWaking s := by
  simp [stepWakingEnd, hw, hs, hd]

/-- Settles O52: the two steps of category 8 by what `beginWaking` and `endWaking` leave of each field. -/
theorem wakeAndWakingEnd : Obligations.WakeAndWakingEnd := by
  refine ⟨fun s hr hs hw => ?wake, fun due s hr hs hw hd => ?waking⟩
  case wake =>
    refine ⟨_, congrArg Host.Outcome.next (inStageD_running hr), ?_, ?_⟩
    · exact .trans (only_stepWake s).mono (only_refreshCrit _).mono
    rw [stepWake_eq hs hw]
    refine ⟨beginWaking_sup s, beginWaking_prof s, ?_, beginWaking_clk s, beginWaking_link s⟩
    exact (beginWaking_jrn s).trans (by rw [hs]; rfl)
  case waking =>
    refine ⟨_, congrArg Host.Outcome.next (inStageD_running hr), ?_, ?_⟩
    · exact .trans (only_stepWakingEnd s).mono (only_refreshCrit _).mono
    rw [stepWakingEnd_eq hs hw hd]
    refine ⟨endWaking_sup s, endWaking_prof s, ?_, endWaking_clk s, endWaking_hb s, endWaking_wd s⟩
    exact (endWaking_jrn s).trans (by rw [hs]; rfl)

/-! ### Entry into STANDBY -/

theorem flStandby_eq (c : FlCfg) (u : FlUnit) : flStandby c u = if c.wake then u else resetFl := rfl

@[simp] theorem enterStandby_sup (s : State) : (enterStandby s).sup = { s.sup with state := .standby } := by
  simp [enterStandby]

@[simp] theorem enterStandby_jrn (s : State) :
    (enterStandby s).jrn = (writeRec (.state s.sup.state .standby) s).jrn := by
  simp [enterStandby]

@[simp] theorem enterStandby_prof (s : State) : (enterStandby s).prof = (cancelUnlock s).prof := by
  simp [enterStandby]

@[simp] theorem enterStandby_src (s : State) : (enterStandby s).src = s.src := (only_enterStandby s).same .src

theorem enterStandby_wd (s : State) : (enterStandby s).wd = wdHold s.wd := by simp [enterStandby]

theorem enterStandby_fl (s : State) (i : Fin 16) :
    vget (enterStandby s).fl i = if (vget s.prof.running.fl i).wake then vget s.fl i else resetFl := by
  simp [enterStandby, flStandby_eq]

theorem enterStandby_hb (s : State) (i : Fin 4) :
    vget (enterStandby s).hb i = { (vget s.hb i) with state := .disarmed, counter := 0, ref := none } := by
  simp [enterStandby, hbDisarm]

theorem enterStandby_link (s : State) : (enterStandby s).link = linkStandby s.prof.running.link s.link := by
  simp [enterStandby]

theorem enterStandby_clk (s : State) : (enterStandby s).clk = { s.clk with wakeReq := false } := by simp [enterStandby]

theorem linkStandby_disabled {c : LinkCfg} (h : c.enable = false) (l : Link) : linkStandby c l = l := by
  simp [linkStandby, h]

theorem linkStandby_enabled {c : LinkCfg} (h : c.enable = true) (l : Link) :
    linkStandby c l = { l with
      rx := if c.wake then .wakeWatch (lineIdle l.rx) else .off (lineIdle l.rx), suspended := true } := by
  simp [linkStandby, h]

/-- Whether LRX has been idle for 2 byte-times, state by state of the receiver (R57; log 40). -/
theorem lineIdle_cases (rx : RxState) :
    (rx = .ready → lineIdle rx = true) ∧ (receives rx = true → rx ≠ .ready → lineIdle rx = false) ∧
      ∀ b, rx = .off b ∨ rx = .wakeWatch b → lineIdle rx = b := by
  cases rx <;> simp [lineIdle, receives]

/-- A command is executed only in a state whose column permits it (R15). -/
theorem permitted_of_executes {c : Cmd} {h : FrameHead} {arg : BitVec 24} {s : State} (he : executes c h arg s = true) :
    permitted c s.sup.state (sessionOpen s) = true := by
  simp only [executes, Bool.and_eq_true] at he
  obtain ⟨⟨⟨-, hp⟩, -⟩, -⟩ := he
  exact hp

/-- ENTER_STANDBY that no reason refuses, as the frame of an executed command. -/
theorem enterStandby_outcome {h : FrameHead} {s : State} (he : executes .enterStandby h 0 s = true)
    (ho : doEnterStandby (accepted h s) = okOut (enterStandby (accepted h s))) :
    ∃ t, cmdFrame .enterStandby h 0 s = t ∧
      CommandOutcome [.sup, .jrn, .fl, .hb, .wd, .link, .clk, .src] h .ok 0 s (enterStandby (accepted h s)) t :=
  command_outcome _ _ he nofun ho (only_enterStandby _).mono (by decide) (.inl (by simp))

/-- WAKE as the frame of an executed command. -/
theorem wake_outcome {h : FrameHead} {s : State} (he : executes .wake h 0 s = true) :
    ∃ t, cmdFrame .wake h 0 s = t ∧
      CommandOutcome [.sup, .jrn, .clk, .link, .src] h .ok 0 s (beginWaking (accepted h s)) t :=
  command_outcome _ _ he nofun rfl (only_beginWaking _).mono (by decide) (.inl (by simp))

/-- The rule of a command has cancelled the unlock step that its frame would cancel (R156). -/
theorem unlockCancelled_of_cancelled {s w t : State} (hw : w.prof = (cancelUnlock s).prof)
    (ht : t.prof = (cancelUnlock w).prof) : unlockCancelled s t := by
  rw [unlockCancelled, ht, cancelUnlock_prof_congr hw, cancelUnlock_idem]

/-- What an executed ENTER_STANDBY leaves of each block (R30, R39, R57, R122, R173). -/
theorem standbyEntered {h : FrameHead} {s t : State} (hs : s.sup.state = .normal)
    (d : CommandOutcome [.sup, .jrn, .fl, .hb, .wd, .link, .clk, .src] h .ok 0 s (enterStandby (accepted h s)) t) :
    unlockCancelled s t ∧ srcFollows s.src s t ∧ t.sup = { s.sup with state := .standby } ∧
      journaled [.state .normal .standby] s t ∧ t.wd = wdHold s.wd ∧
      (∀ i, vget t.fl i = if (vget s.prof.running.fl i).wake then vget s.fl i else resetFl) ∧
      (∀ i, vget t.hb i = { (vget s.hb i) with state := .disarmed, counter := 0, ref := none }) ∧
      t.link = linkStandby s.prof.running.link s.link ∧ t.clk = { s.clk with wakeReq := false } := by
  have hfl : t.fl = (enterStandby (accepted h s)).fl := d.rest.same .fl
  have hhb : t.hb = (enterStandby (accepted h s)).hb := d.rest.same .hb
  refine ⟨unlockCancelled_of_cancelled ((enterStandby_prof (accepted h s)).trans (cancelUnlock_prof_congr rfl)) d.prof, ?_,
    Eq.trans (d.rest.same .sup) (enterStandby_sup _), ?_, Eq.trans (d.rest.same .wd) (enterStandby_wd _), fun i => ?_,
    fun i => ?_, Eq.trans (d.rest.same .link) (enterStandby_link _), Eq.trans (d.rest.same .clk) (enterStandby_clk _)⟩
  · have hsrc := d.srcf
    rwa [enterStandby_src] at hsrc
  · rw [← hs]
    exact Eq.trans (d.rest.same .jrn) (enterStandby_jrn _)
  · rw [hfl]
    exact enterStandby_fl _ i
  · rw [hhb]
    exact enterStandby_hb _ i

/-- Settles O33: the refusals by `command_refused`, STANDBY by `standbyEntered`, and WAKING by what `beginWaking` leaves. -/
theorem standbyAndWakeCommands : Obligations.StandbyAndWakeCommands := by
  refine ⟨fun h s he => ?standby, fun h s he => ?wake⟩
  case standby =>
    have hstate : s.sup.state = .normal := by simpa [permitted] using permitted_of_executes he
    have hrefuse {r : Reason} (hd : doEnterStandby (accepted h s) = refuse r (accepted h s)) :
        commandRefused r h s (cmdFrame .enterStandby h 0 s) := by
      obtain ⟨t, rfl, hc, -⟩ := command_refused he nofun hd
      exact hc
    refine ⟨_, rfl, ?_⟩
    by_cases hrun : selftestRunning s = true
    · rw [if_pos hrun]
      exact hrefuse (if_pos hrun)
    by_cases hopen : sessionOpen s = true
    · rw [if_neg hrun, if_pos hopen]
      exact hrefuse ((if_neg hrun).trans (if_pos hopen))
    by_cases hsev : severeLatched s = true
    · rw [if_neg hrun, if_neg hopen, if_pos hsev]
      exact hrefuse ((if_neg hrun).trans ((if_neg hopen).trans (if_pos hsev)))
    rw [if_neg hrun, if_neg hopen, if_neg hsev]
    obtain ⟨t, rfl, d⟩ := enterStandby_outcome he ((if_neg hrun).trans ((if_neg hopen).trans (if_neg hsev)))
    obtain ⟨hunlock, hsrc, hsup, hjrn, hwd, hfl, hhb, hlink, hclk⟩ := standbyEntered hstate d
    obtain ⟨hready, hbusy, hoff⟩ := lineIdle_cases s.link.rx
    exact ⟨d.done, hunlock, hsrc, hsup, hjrn, hwd, hfl, hhb, fun hd => hlink.trans (linkStandby_disabled hd _),
      fun hen => ⟨_, hready, hbusy, hoff, hlink.trans (linkStandby_enabled hen _)⟩, hclk⟩
  case wake =>
    have hstate : s.sup.state = .standby := by simpa [permitted] using permitted_of_executes he
    obtain ⟨t, ht, d⟩ := wake_outcome he
    refine ⟨t, congrArg Host.Outcome.next ht, d.done,
      unlockCancelled_of_cancelled ((beginWaking_prof (accepted h s)).trans (cancelUnlock_prof_congr rfl)) d.prof, ?_,
      Eq.trans (d.rest.same .sup) (beginWaking_sup _), ?_, Eq.trans (d.rest.same .clk) (beginWaking_clk _),
      Eq.trans (d.rest.same .link) (beginWaking_link _)⟩
    · have hsrc := d.srcf
      have hkept : (beginWaking (accepted h s)).src = s.src := (only_beginWaking (accepted h s)).same .src
      rwa [hkept] at hsrc
    · rw [← hstate]
      exact Eq.trans (d.rest.same .jrn) (beginWaking_jrn _)

end Sys2Proof.Machine
end

section
/-!
PROOF. CLOSE_APPLY: what an APPLY does to the lines, the channels, the link, the watchdog and the pair, and to the Alarm List, and how
the command is refused.
-/

namespace Sys2Proof.Machine

set_option Elab.async false

/-! ### Fault lines, heartbeat channels, the watchdog and the pair -/

theorem flApply_changed {old new : FlCfg} (h : old.activeHigh ≠ new.activeHigh ∨ old.mode ≠ new.mode) (u : FlUnit) :
    flApply old new u = { u with state := .inactive, count := 0, hold := .none } :=
  if_neg fun hsame => h.elim (absurd hsame.1) (absurd hsame.2)

theorem flApply_unchanged {old new : FlCfg} (hpol : old.activeHigh = new.activeHigh) (hmode : old.mode = new.mode) (u : FlUnit) :
    flApply old new u = u := if_pos ⟨hpol, hmode⟩

theorem hbApply_disables {old new : HbCfg} (ho : old.enable = true) (hn : new.enable = false) (u : HbUnit) :
    hbApply old new u = { u with state := .disarmed, counter := 0, ref := none } := by
  simp [hbApply, ho, hn, hbDisarm]

theorem hbApply_enables {old new : HbCfg} (ho : old.enable = false) (hn : new.enable = true) (u : HbUnit) :
    hbApply old new u = { u with state := .arming, counter := 0, ref := none } := by
  simp [hbApply, ho, hn, hbArm]

theorem hbApply_disabled {old new : HbCfg} (ho : old.enable = false) (hn : new.enable = false) (u : HbUnit) :
    hbApply old new u = u := by
  simp [hbApply, ho, hn]

theorem hbApply_sameWindow {old new : HbCfg} (ho : old.enable = true) (hn : new.enable = true) (hedge : old.edge = new.edge)
    (hmin : old.min = new.min) (hmax : old.max = new.max) (u : HbUnit) : hbApply old new u = u := by
  simp [hbApply, ho, hn, hedge, hmin, hmax]

theorem hbApply_newWindow {old new : HbCfg} (ho : old.enable = true) (hn : new.enable = true)
    (hc : old.edge ≠ new.edge ∨ old.min ≠ new.min ∨ old.max ≠ new.max) (u : HbUnit) :
    hbApply old new u = hbRewindow u := by
  have hw : ¬ (old.edge = new.edge ∧ old.min = new.min ∧ old.max = new.max) := by tauto
  simp [hbApply, ho, hn, hw]

theorem hbRewindow_restarts {u : HbUnit} (h : u.state = .arming ∨ u.state = .running) :
    hbRewindow u = { u with state := .arming, counter := 0 } := by
  rcases h with h | h <;> simp [hbRewindow, h]

theorem hbRewindow_keeps {u : HbUnit} (h : u.state = .frozen ∨ u.state = .disarmed) : hbRewindow u = u := by
  rcases h with h | h <;> simp [hbRewindow, h]

theorem wdApply_enables {old new : WdCfg} (ho : old.enable = false) (hn : new.enable = true) (pulsing : Bool) (now : Tick)
    (w : Watchdog) : wdApply old new pulsing now w =
      { w with phase := if pulsing then .held else .initial (addTicks now (tenMsTicks new.initial)) } := by
  simp [wdApply, ho, hn, wdInitial]

theorem wdApply_disables {old new : WdCfg} (ho : old.enable = true) (hn : new.enable = false) (pulsing : Bool) (now : Tick)
    (w : Watchdog) : wdApply old new pulsing now w = { w with phase := .off, viol := 0 } := by
  simp [wdApply, ho, hn]

theorem wdApply_same {old new : WdCfg} (h : old.enable = new.enable) (pulsing : Bool) (now : Tick) (w : Watchdog) :
    wdApply old new pulsing now w = w := by
  unfold wdApply
  cases hn : new.enable <;> simp [h, hn]

theorem pulsingNow_iff (s : State) : pulsingNow s = true ↔ ∃ stop, s.sup.hostReset = .pulsing stop := by
  unfold pulsingNow
  cases s.sup.hostReset <;> simp

theorem pairApply_kept {p : Pair} (h : ∀ ph d pend, p ≠ .antiphase ph d pend) (c : EpCfg) : pairApply c p = p := by
  cases p
  case antiphase ph d pend => exact absurd rfl (h ph d pend)
  all_goals rfl

/-! ### The link -/

theorem getLsbD_setWithout (x : BitVec 8) (n m : Fin 8) :
    (setWithout x n).getLsbD m.val = (x.getLsbD m.val && !decide (m = n)) := by
  simp [setWithout, Fin.ext_iff, eq_comm]

theorem setWithout_of_not_inSet {x : BitVec 8} {n : Fin 8} (h : inSet x n = false) : setWithout x n = x := by
  apply BitVec.eq_of_getLsbD_eq
  intro i hi
  have hbit := getLsbD_setWithout x n ⟨i, hi⟩
  rw [hbit]
  by_cases hin : (⟨i, hi⟩ : Fin 8) = n
  · subst hin
    simpa [inSet] using h
  · simp [hin]

theorem ne_zero_of_inSet {x : BitVec 8} {n : Fin 8} (h : inSet x n = true) : x ≠ 0#8 := by
  rintro rfl
  simp [inSet] at h

/-- The last-event record of a set after some members have left: emptied with the set (R48, R50, R55). -/
def recordLeft (before after : BitVec 8) (r : Option LastEvent) : Option LastEvent :=
  if after = 0 ∧ before ≠ 0 then none else r

theorem recordLeft_same (x : BitVec 8) (r : Option LastEvent) : recordLeft x x r = r := if_neg fun h => h.2 h.1

theorem leaveSet_sets (n : Fin 8) (k j : Fin 16) (l : Link) :
    vget (leaveSet n k l).sets j = if j = k then setWithout (vget l.sets j) n else vget l.sets j := by
  unfold leaveSet
  simp only []
  by_cases hj : j = k
  · subst hj
    cases hin : inSet (vget l.sets j) n <;> simp [setWithout_of_not_inSet, hin]
  · cases hin : inSet (vget l.sets k) n <;> simp [hj, vget_vset_ne]

theorem leaveSet_last (n : Fin 8) (k j : Fin 16) (l : Link) :
    vget (leaveSet n k l).last j = recordLeft (vget l.sets j) (vget (leaveSet n k l).sets j) (vget l.last j) := by
  rw [leaveSet_sets]
  by_cases hj : j = k
  · subst hj
    rw [if_pos rfl]
    cases hin : inSet (vget l.sets j) n
    · rw [setWithout_of_not_inSet hin, recordLeft_same]
      simp [leaveSet, hin]
    · by_cases hz : setWithout (vget l.sets j) n = 0#8 <;> simp [leaveSet, recordLeft, hin, hz, ne_zero_of_inSet hin]
  · rw [if_neg hj, recordLeft_same]
    cases hin : inSet (vget l.sets k) n
    · simp [leaveSet, hin]
    · by_cases hz : setWithout (vget l.sets k) n = 0#8 <;> simp [leaveSet, hin, hz, vget_vset_ne _ _ _ _ hj]

/-- The nodes of which `gone` holds have left the code sets (R48, R50, R55). -/
structure SetsLeft (gone : Fin 16 → Fin 8 → Bool) (l l' : Link) : Prop where
  bits : ∀ k n, (vget l'.sets k).getLsbD n.val = ((vget l.sets k).getLsbD n.val && !gone k n)
  last : ∀ k, vget l'.last k = recordLeft (vget l.sets k) (vget l'.sets k) (vget l.last k)

/-- A set that loses members is empty if it was empty. -/
theorem eq_zero_of_bits {x y : BitVec 8} {gone : Fin 8 → Bool}
    (h : ∀ n : Fin 8, y.getLsbD n.val = (x.getLsbD n.val && !gone n)) (hx : x = 0#8) : y = 0#8 := by
  apply BitVec.eq_of_getLsbD_eq
  intro i hi
  simpa [hx] using h ⟨i, hi⟩

/-- A set left twice: its record is emptied once (R48). -/
theorem recordLeft_trans {x y z : BitVec 8} (hxy : x = 0#8 → y = 0#8) (hyz : y = 0#8 → z = 0#8) (r : Option LastEvent) :
    recordLeft y z (recordLeft x y r) = recordLeft x z r := by
  unfold recordLeft
  by_cases hx : x = 0#8
  · simp [hx, hxy hx]
  · by_cases hy : y = 0#8
    · simp [hx, hy, hyz hy]
    · by_cases hz : z = 0#8 <;> simp [hx, hy, hz]

theorem SetsLeft.trans {g g' : Fin 16 → Fin 8 → Bool} {l l' l'' : Link} (h : SetsLeft g l l') (h' : SetsLeft g' l' l'') :
    SetsLeft (fun k n => g k n || g' k n) l l'' := by
  refine ⟨fun k n => ?_, fun k => ?_⟩
  · rw [h'.bits, h.bits, Bool.not_or, Bool.and_assoc]
  · rw [h'.last, h.last]
    exact recordLeft_trans (eq_zero_of_bits (h.bits k)) (eq_zero_of_bits (h'.bits k)) _

theorem SetsLeft.congr {g g' : Fin 16 → Fin 8 → Bool} {l l' : Link} (h : SetsLeft g l l') (hg : ∀ k n, g k n = g' k n) :
    SetsLeft g' l l' := ⟨fun k n => by rw [h.bits, hg], h.last⟩

/-- Sets and records that nothing has touched. -/
theorem setsLeft_same {l l' : Link} (hs : l'.sets = l.sets) (hl : l'.last = l.last) : SetsLeft (fun _ _ => false) l l' := by
  refine ⟨fun k n => by simp [hs], fun k => ?_⟩
  rw [hs, hl, recordLeft_same]

theorem setsLeft_leaveSet (n : Fin 8) (k : Fin 16) (l : Link) :
    SetsLeft (fun j m => decide (j = k) && decide (m = n)) l (leaveSet n k l) := by
  refine ⟨fun j m => ?_, fun j => leaveSet_last n k j l⟩
  rw [leaveSet_sets]
  by_cases hj : j = k
  · rw [if_pos hj, getLsbD_setWithout, decide_eq_true hj, Bool.true_and]
  · simp [hj]

theorem leaveSet_rest (n : Fin 8) (k : Fin 16) (l : Link) :
    leaveSet n k l = { l with sets := (leaveSet n k l).sets, last := (leaveSet n k l).last } := by
  unfold leaveSet
  simp only []
  split <;> rfl

theorem setsLeft_leaveFold (n : Fin 8) (ks : List (Fin 16)) (l : Link) :
    SetsLeft (fun j m => decide (j ∈ ks) && decide (m = n)) l (ks.foldl (fun l k => leaveSet n k l) l) := by
  induction ks generalizing l with
  | nil => exact (setsLeft_same rfl rfl).congr (by simp)
  | cons k ks ih =>
    refine ((setsLeft_leaveSet n k l).trans (ih _)).congr fun j m => ?_
    rw [← Bool.and_or_distrib_right]
    simp

theorem leaveFold_rest (n : Fin 8) (ks : List (Fin 16)) (l : Link) :
    ks.foldl (fun l k => leaveSet n k l) l =
      { l with
        sets := (ks.foldl (fun l k => leaveSet n k l) l).sets, last := (ks.foldl (fun l k => leaveSet n k l) l).last } := by
  induction ks generalizing l with
  | nil => rfl
  | cons k ks ih => rw [List.foldl_cons, ih, leaveSet_rest]

/-- A node leaves every code set (R50, R55). -/
theorem setsLeft_leaveAll (n : Fin 8) (l : Link) : SetsLeft (fun _ m => decide (m = n)) l (leaveAll n l) :=
  (setsLeft_leaveFold n (List.finRange 16) l).congr (by simp)

theorem leaveAll_rest (n : Fin 8) (l : Link) :
    leaveAll n l = { l with sets := (leaveAll n l).sets, last := (leaveAll n l).last } := leaveFold_rest _ _ _

/-- Of the nodes in `ns`, those that leave or join the watched set have started anew, and those that leave it are out of the code
sets (R55). -/
structure Rewatched (old new : LinkCfg) (ns : List (Fin 8)) (l l' : Link) : Prop where
  rest : l' = { l with nodes := l'.nodes, sets := l'.sets, last := l'.last }
  nodes : ∀ n, vget l'.nodes n = if n ∈ ns ∧ watched old n ≠ watched new n then resetNode else vget l.nodes n
  sets : SetsLeft (fun _ n => decide (n ∈ ns) && nodeLeaves old new n) l l'

/-- The entry of a node whose being watched changes is the one that is reset (R55). -/
theorem vget_restarted {old new : LinkCfg} {n : Fin 8} (h : watched old n ≠ watched new n) (v : Vector NodeEntry 8) (m : Fin 8) :
    vget (vset v n resetNode) m = if m ∈ [n] ∧ watched old m ≠ watched new m then resetNode else vget v m := by
  rw [vget_vset]
  by_cases hm : m = n
  · subst hm
    simp [h]
  · simp [hm]

theorem rewatched_rewatch (old new : LinkCfg) (n : Fin 8) (l : Link) : Rewatched old new [n] l (rewatch old new l n) := by
  have hstays (hl : nodeLeaves old new n = false) (m : Fin 8) : false = (decide (m ∈ [n]) && nodeLeaves old new m) := by
    by_cases hm : m = n <;> simp [hm, hl]
  cases ho : watched old n <;> cases hn : watched new n
  case false.false | true.true =>
    have he : rewatch old new l n = l := by simp [rewatch, ho, hn]
    rw [he]
    refine ⟨rfl, fun m => (if_neg ?_).symm, (setsLeft_same rfl rfl).congr fun _ => hstays (by simp [nodeLeaves, ho, hn])⟩
    rintro ⟨hm, hne⟩
    obtain rfl := List.mem_singleton.mp hm
    exact hne (ho.trans hn.symm)
  case false.true =>
    have he : rewatch old new l n = watchAgain n l := by simp [rewatch, ho, hn]
    rw [he]
    exact ⟨rfl, vget_restarted (by simp [ho, hn]) _,
      (setsLeft_same (l := l) (l' := watchAgain n l) rfl rfl).congr fun _ => hstays (by simp [nodeLeaves, ho])⟩
  case true.false =>
    have he : rewatch old new l n = unwatch n l := by simp [rewatch, ho, hn]
    have hleave := setsLeft_leaveAll n { l with nodes := vset l.nodes n resetNode }
    have hrest := leaveAll_rest n { l with nodes := vset l.nodes n resetNode }
    have hnodes : (unwatch n l).nodes = vset l.nodes n resetNode := congrArg Link.nodes hrest
    rw [he]
    refine ⟨?_, fun m => ?_, SetsLeft.congr ⟨hleave.bits, hleave.last⟩ fun _ m => ?_⟩
    · rw [hnodes]
      exact hrest
    · rw [hnodes]
      exact vget_restarted (by simp [ho, hn]) _ m
    · by_cases hm : m = n <;> simp [hm, nodeLeaves, ho, hn]

theorem Rewatched.trans {old new : LinkCfg} {n : Fin 8} {ns : List (Fin 8)} {l l' l'' : Link}
    (h : Rewatched old new [n] l l') (h' : Rewatched old new ns l' l'') : Rewatched old new (n :: ns) l l'' := by
  refine ⟨?_, fun m => ?_, (h.sets.trans h'.sets).congr fun _ m => ?_⟩
  · rw [h'.rest, h.rest]
  · rw [h'.nodes, h.nodes]
    by_cases hw : watched old m = watched new m
    · simp [hw]
    · rcases eq_or_ne m n with rfl | hm
      · simp [hw]
      · simp [hm]
  · rw [← Bool.and_or_distrib_right]
    simp

theorem rewatched_fold (old new : LinkCfg) (ns : List (Fin 8)) (l : Link) :
    Rewatched old new ns l (ns.foldl (rewatch old new) l) := by
  induction ns generalizing l with
  | nil => exact ⟨rfl, by simp, (setsLeft_same rfl rfl).congr (by simp)⟩
  | cons n ns ih => exact (rewatched_rewatch old new n l).trans (ih _)

/-- An APPLY that leaves the link enabled (R55). -/
theorem linkRewatched_fold (old new : LinkCfg) (l : Link) :
    linkRewatched old new l ((List.finRange 8).foldl (rewatch old new) l) := by
  have h := rewatched_fold old new (List.finRange 8) l
  refine ⟨h.rest, fun n => ?_, fun k => ⟨fun n => ?_, h.sets.last k⟩⟩
  · rw [h.nodes]
    by_cases hw : watched old n = watched new n <;> simp [hw, resetNode]
  · rw [h.sets.bits]
    simp

theorem linkStopped_linkStop (l : Link) : linkStopped l (linkStop l) := by
  simp [linkStopped, linkStop, resetNode]

/-- What an APPLY does to the link, by the change of LINK_ENABLE (R54, R55). -/
theorem linkApplied_linkApply (old new : LinkCfg) (l : Link) : linkApplied old new l (linkApply old new l) := by
  refine ⟨fun ho hn => ?_, fun ho hn => ?_, fun ho hn => ?_, fun ho hn => ?_⟩ <;> simp only [linkApply, ho, hn]
  · exact linkStopped_linkStop l
  · exact linkRewatched_fold old new l

/-! ### The blocks after an APPLY -/

/-- What an APPLY has made of the state before the entries of disabled sources leave the Alarm List (R158). -/
def blocksApplied (p : Profile) (s : State) : State :=
  adjustBlocks s.prof.running p
    (closeSession (writeRec (.session .apply) (s.setProf { s.prof with running := p, coded := p, dflt := false })))

/-- The source of the entry is disabled in `p` (R86). -/
def sourceDisabled (p : Profile) (x : Alarm) : Bool := !(vget p.desc x.src).enable

theorem applyProfile_eq (p : Profile) (s : State) : applyProfile p s = dropAlarms (sourceDisabled p) (blocksApplied p s) := rfl

theorem only_applyProfile (p : Profile) (s : State) :
    onlyParts [.prof, .fl, .hb, .link, .src, .wd, .out, .sup, .ack, .jrn] s (applyProfile p s) :=
  .trans (.trans (.trans (.trans (only_setProf _ _).mono (only_writeRec _ _).mono) (only_closeSession _).mono)
    (only_adjustBlocks _ _ _).mono) (only_dropAlarms _ _).mono

theorem only_blocksApplied (p : Profile) (s : State) :
    onlyParts [.prof, .jrn, .fl, .hb, .link, .src, .wd, .out] s (blocksApplied p s) :=
  .trans (.trans (.trans (only_setProf _ _).mono (only_writeRec _ _).mono) (only_closeSession _).mono)
    (only_adjustBlocks _ _ _).mono

theorem blocksApplied_sup (p : Profile) (s : State) : (blocksApplied p s).sup = s.sup := (only_blocksApplied p s).same .sup

theorem blocksApplied_ack (p : Profile) (s : State) : (blocksApplied p s).ack = s.ack := (only_blocksApplied p s).same .ack

theorem blocksApplied_now (p : Profile) (s : State) : (blocksApplied p s).now = s.now :=
  congrArg Clock.tick ((only_blocksApplied p s).same .clk)

theorem blocksApplied_prof (p : Profile) (s : State) : (blocksApplied p s).prof =
    { s.prof with running := p, coded := p, dflt := false, session := .closed } :=
  ((only_adjustBlocks _ _ _).same .prof)

theorem blocksApplied_jrn (p : Profile) (s : State) :
    (blocksApplied p s).jrn = (writeRec (.session .apply) (s.setProf (blocksApplied p s).prof)).jrn := by
  rw [blocksApplied_prof]
  exact Eq.trans ((only_adjustBlocks _ _ _).same .jrn) (writeRec_jrn_congr _ rfl rfl rfl rfl)

theorem blocksApplied_fl (p : Profile) (s : State) (i : Fin 16) :
    vget (blocksApplied p s).fl i = flApply (vget s.prof.running.fl i) (vget p.fl i) (vget s.fl i) := by
  simp [blocksApplied, adjustBlocks, closeSession]

theorem blocksApplied_hb (p : Profile) (s : State) (i : Fin 4) :
    vget (blocksApplied p s).hb i = hbApply (vget s.prof.running.hb i) (vget p.hb i) (vget s.hb i) := by
  simp [blocksApplied, adjustBlocks, closeSession]

theorem blocksApplied_link (p : Profile) (s : State) :
    (blocksApplied p s).link = linkApply s.prof.running.link p.link s.link := by
  simp [blocksApplied, adjustBlocks, closeSession]

theorem blocksApplied_src (p : Profile) (s : State) : (blocksApplied p s).src = recomputePromoted p s.src := by
  simp [blocksApplied, adjustBlocks, closeSession]

theorem blocksApplied_wd (p : Profile) (s : State) :
    (blocksApplied p s).wd = wdApply s.prof.running.wd p.wd (pulsingNow s) s.now s.wd := by
  simp [blocksApplied, adjustBlocks, closeSession, pulsingNow, State.now]

theorem blocksApplied_out (p : Profile) (s : State) :
    (blocksApplied p s).out = { s.out with pair := pairApply p.ep s.out.pair } := by
  simp [blocksApplied, adjustBlocks, closeSession]

theorem cancelUnlock_blocksApplied {p : Profile} {s t : State} (h : t.prof = (blocksApplied p s).prof) :
    (cancelUnlock t).prof = (blocksApplied p s).prof := by
  rw [cancelUnlock, h, blocksApplied_prof]
  exact h.trans (blocksApplied_prof p s)

/-- No entry of the Alarm List that ALERT stands on is left (R86). -/
def alarmsEmptied (p : Profile) (s : State) : Prop :=
  s.sup.state = .alert ∧ s.sup.alarms ≠ [] ∧ s.sup.alarms.filter (fun a => (vget p.desc a.src).enable) = []

theorem filter_sourceDisabled (p : Profile) (l : List Alarm) :
    l.filter (fun x => !sourceDisabled p x) = l.filter (fun a => (vget p.desc a.src).enable) := by
  simp [sourceDisabled]

/-- What an APPLY leaves in the Supervisor and what it writes, where ALERT ends (R86, R158). -/
theorem applyProfile_emptied {p : Profile} {s : State} (h : alarmsEmptied p s) :
    (applyProfile p s).prof = (blocksApplied p s).prof ∧
      (applyProfile p s).sup = { s.sup with alarms := [], state := .normal, first := none } ∧
      (applyProfile p s).ack = { s.ack with level := 0 } ∧
      journaled [.session .apply, .state .alert .normal] (s.setProf (blocksApplied p s).prof) (applyProfile p s) := by
  obtain ⟨halert, hsome, hnone⟩ := h
  have hdrop := dropAlarms_emptied (g := sourceDisabled p) (s := blocksApplied p s)
    ⟨halert, hsome, (filter_sourceDisabled _ _).trans hnone⟩
  rw [filter_sourceDisabled, blocksApplied_sup, hnone] at hdrop
  rw [applyProfile_eq, hdrop]
  refine ⟨?_, ?_, ?_, ?_⟩
  · simp only [endEpisode, setAck_prof, setSup_prof, changeState_prof]
    exact cancelUnlock_blocksApplied rfl
  · simp [endEpisode]
  · simp [endEpisode, blocksApplied_ack]
  · simp only [endEpisode, journaled, setAck_jrn, setSup_jrn, changeState_jrn, setSup_sup, halert]
    exact writeRec_jrn_congr _ (blocksApplied_jrn p s) (blocksApplied_now p s) rfl rfl

/-- What an APPLY leaves in the Supervisor and what it writes, where the supervisor state stays (R86, R158). -/
theorem applyProfile_kept {p : Profile} {s : State} (h : ¬ alarmsEmptied p s) :
    (applyProfile p s).prof = (blocksApplied p s).prof ∧
      (applyProfile p s).sup = { s.sup with alarms := s.sup.alarms.filter (fun a => (vget p.desc a.src).enable) } ∧
      (applyProfile p s).ack = s.ack ∧
      journaled [.session .apply] (s.setProf (blocksApplied p s).prof) (applyProfile p s) := by
  have hdrop := dropAlarms_kept (g := sourceDisabled p) (s := blocksApplied p s)
    (by rwa [filter_sourceDisabled, blocksApplied_sup])
  rw [filter_sourceDisabled, blocksApplied_sup] at hdrop
  rw [applyProfile_eq, hdrop]
  exact ⟨rfl, rfl, blocksApplied_ack p s, blocksApplied_jrn p s⟩

theorem applyProfile_prof (p : Profile) (s : State) : (applyProfile p s).prof = (blocksApplied p s).prof := by
  by_cases h : alarmsEmptied p s
  · exact (applyProfile_emptied h).1
  · exact (applyProfile_kept h).1

theorem applyProfile_alarms (p : Profile) (s : State) :
    (applyProfile p s).sup.alarms = s.sup.alarms.filter (fun a => (vget p.desc a.src).enable) := by
  by_cases h : alarmsEmptied p s
  · obtain ⟨-, hsup, -⟩ := applyProfile_emptied h
    rw [hsup, h.2.2]
  · obtain ⟨-, hsup, -⟩ := applyProfile_kept h
    rw [hsup]

/-- The blocks that the Alarm List does not reach (R86). -/
theorem only_blocksToApply (p : Profile) (s : State) :
    onlyParts [.sup, .jrn, .prof, .ack] (blocksApplied p s) (applyProfile p s) := only_dropAlarms _ _

theorem linesApplied_of_fl {p : Profile} {s t : State} (h : t.fl = (blocksApplied p s).fl) :
    linesApplied s.prof.running p s t := by
  intro i
  rw [h, blocksApplied_fl]
  exact ⟨fun hc => flApply_changed hc _, fun hpol hmode => flApply_unchanged hpol hmode _⟩

theorem channelsApplied_of_hb {p : Profile} {s t : State} (h : t.hb = (blocksApplied p s).hb) :
    channelsApplied s.prof.running p s t := by
  intro i
  rw [h, blocksApplied_hb]
  refine ⟨fun ho hn => hbApply_disables ho hn _, fun ho hn => hbApply_enables ho hn _, fun ho hn hc => ?_,
    fun ho hn hedge hmin hmax => hbApply_sameWindow ho hn hedge hmin hmax _, fun ho hn => hbApply_disabled ho hn _⟩
  rw [hbApply_newWindow ho hn hc]
  exact ⟨hbRewindow_restarts, hbRewindow_keeps⟩

theorem watchdogApplied_of_wd {p : Profile} {s t : State} (h : t.wd = (blocksApplied p s).wd) :
    watchdogApplied s.prof.running.wd p.wd s t := by
  rw [watchdogApplied, h, blocksApplied_wd]
  refine ⟨fun ho hn => ?_, fun ho hn => wdApply_disables ho hn _ _ _, fun hsame => wdApply_same hsame _ _ _⟩
  rw [wdApply_enables ho hn]
  refine ⟨fun stop hp => ?_, fun hp => ?_⟩
  · rw [if_pos ((pulsingNow_iff s).mpr ⟨stop, hp⟩)]
  · rw [if_neg fun hpulse => ((pulsingNow_iff s).mp hpulse).elim hp]

/-! ### The command -/

theorem applyBlock_eq (p : Profile) (s : State) :
    applyBlock p s = if s.prof.commit = .busy then some .commitBusy
      else if badHbWindow p then some .badHbWindow
      else if badAlarmTime p then some .badAlarmTime else none := by
  simp [applyBlock, commitBusy]

theorem doCloseApply_refused {due : Tick} {p : Profile} {s : State} {r : Reason} (hs : s.prof.session = .opn due p)
    (hb : applyBlock p s = some r) : doCloseApply s = refuse r s := by
  simp [doCloseApply, hs, hb]

theorem doCloseApply_applies {due : Tick} {p : Profile} {s : State} (hs : s.prof.session = .opn due p)
    (hb : applyBlock p s = none) : doCloseApply s = okOut (applyProfile p s) := by
  simp [doCloseApply, hs, hb]

/-- CLOSE_APPLY that no reason refuses, as the frame of an executed command. -/
theorem closeApply_outcome {h : FrameHead} {due : Tick} {p : Profile} {s : State} (hs : s.prof.session = .opn due p)
    (he : executes .closeApply h 0 s = true) (hb : applyBlock p s = none) :
    ∃ t, cmdFrame .closeApply h 0 s = t ∧
      CommandOutcome [.fl, .hb, .link, .src, .wd, .out, .sup, .ack, .jrn] h .ok 0 s (applyProfile p (accepted h s)) t :=
  command_outcome _ _ he nofun (doCloseApply_applies (s := accepted h s) hs hb) (only_applyProfile _ _) (by decide)
    (.inl (by simp))

/-- What the frame of an applied CLOSE_APPLY leaves of each block, by what `applyProfile` leaves of it. -/
structure ApplyLeft (p : Profile) (u t : State) : Prop where
  prof : t.prof = (blocksApplied p u).prof
  fl : t.fl = (blocksApplied p u).fl
  hb : t.hb = (blocksApplied p u).hb
  link : t.link = (blocksApplied p u).link
  wd : t.wd = (blocksApplied p u).wd
  out : t.out = (blocksApplied p u).out
  sup : t.sup = (applyProfile p u).sup
  ack : t.ack = (applyProfile p u).ack
  jrn : t.jrn = (applyProfile p u).jrn

theorem applyLeft_of_outcome {l : List Part} {h : FrameHead} {p : Profile} {s u t : State}
    (d : CommandOutcome l h .ok 0 s (applyProfile p u) t) : ApplyLeft p u t :=
  have hblocks := only_blocksToApply p u
  { prof := d.prof.trans (cancelUnlock_blocksApplied (applyProfile_prof p u))
    fl := Eq.trans (d.rest.same .fl) (hblocks.same .fl)
    hb := Eq.trans (d.rest.same .hb) (hblocks.same .hb)
    link := Eq.trans (d.rest.same .link) (hblocks.same .link)
    wd := Eq.trans (d.rest.same .wd) (hblocks.same .wd)
    out := Eq.trans (d.rest.same .out) (hblocks.same .out)
    sup := d.rest.same .sup
    ack := d.rest.same .ack
    jrn := d.rest.same .jrn }

/-- The records after an APPLY: PROMOTED is computed anew, then COND follows (R59, R65). -/
theorem srcFollows_of_apply {l : List Part} {h : FrameHead} {p : Profile} {s u t : State}
    (d : CommandOutcome l h .ok 0 s (applyProfile p u) t) : srcFollows (recomputePromoted p u.src) s t := by
  have hsrc : (applyProfile p u).src = recomputePromoted p u.src :=
    Eq.trans ((only_blocksToApply p u).same .src) (blocksApplied_src p u)
  have hfollows := d.srcf
  rwa [hsrc] at hfollows

/-- What the Alarm List and the supervisor state come to (R86). -/
theorem ApplyLeft.supervisor {p : Profile} {u t : State} (a : ApplyLeft p u t) :
    if u.sup.state = .alert ∧ u.sup.alarms ≠ [] ∧ t.sup.alarms = [] then
      t.sup = { u.sup with alarms := [], state := .normal, first := none } ∧ t.ack = { u.ack with level := 0 } ∧
        journaled [.session .apply, .state .alert .normal] (u.setProf t.prof) t
    else
      t.sup = { u.sup with alarms := t.sup.alarms } ∧ t.ack = u.ack ∧ journaled [.session .apply] (u.setProf t.prof) t := by
  have halarms : t.sup.alarms = u.sup.alarms.filter (fun x => (vget p.desc x.src).enable) := by
    rw [a.sup, applyProfile_alarms]
  have hiff : (u.sup.state = .alert ∧ u.sup.alarms ≠ [] ∧ t.sup.alarms = []) ↔ alarmsEmptied p u := by
    rw [halarms, alarmsEmptied]
  rw [a.prof]
  by_cases hemptied : alarmsEmptied p u
  · rw [if_pos (hiff.mpr hemptied)]
    obtain ⟨-, hs, ha, hj⟩ := applyProfile_emptied hemptied
    exact ⟨a.sup.trans hs, a.ack.trans ha, a.jrn.trans hj⟩
  · rw [if_neg (hiff.not.mpr hemptied), halarms]
    obtain ⟨-, hs, ha, hj⟩ := applyProfile_kept hemptied
    exact ⟨a.sup.trans hs, a.ack.trans ha, a.jrn.trans hj⟩

/-- Settles O30: the refusals by `command_refused`, and each block by its own lemma. -/
theorem closeApplyMakesStagingRunning : Obligations.CloseApplyMakesStagingRunning := by
  intro h due p s hs he
  have hblock := applyBlock_eq p s
  have hrefuse {r : Reason} (hb : applyBlock p s = some r) : commandRefused r h s (cmdFrame .closeApply h 0 s) := by
    obtain ⟨t, rfl, hc, -⟩ := command_refused he nofun (doCloseApply_refused (s := accepted h s) hs hb)
    exact hc
  refine ⟨_, rfl, ?_⟩
  by_cases hbusy : s.prof.commit = .busy
  · rw [if_pos hbusy] at hblock ⊢
    exact hrefuse hblock
  rw [if_neg hbusy] at hblock ⊢
  by_cases hwin : badHbWindow p = true
  · rw [if_pos hwin] at hblock ⊢
    exact hrefuse hblock
  rw [if_neg hwin] at hblock ⊢
  by_cases halarm : badAlarmTime p = true
  · rw [if_pos halarm] at hblock ⊢
    exact hrefuse hblock
  rw [if_neg halarm] at hblock ⊢
  obtain ⟨t, ht, d⟩ := closeApply_outcome hs he hblock
  rw [ht]
  have a := applyLeft_of_outcome d
  have hsrc := srcFollows_of_apply d
  have hlines := linesApplied_of_fl a.fl
  have hchannels := channelsApplied_of_hb a.hb
  have hwd := watchdogApplied_of_wd a.wd
  have hlink := linkApplied_linkApply s.prof.running.link p.link s.link
  have hout := a.out.trans (blocksApplied_out p _)
  have halarms := (congrArg Supervisor.alarms a.sup).trans (applyProfile_alarms p _)
  have hpair : t.out.pair = pairApply p.ep s.out.pair := congrArg Outputs.pair hout
  refine ⟨d.done, a.prof.trans (blocksApplied_prof p _), hsrc, hlines, hchannels, ?_, hwd, ?_,
    fun ph due pend hp => ?_, fun hp => ?_, halarms, a.supervisor⟩
  · rw [a.link, blocksApplied_link]
    exact hlink
  · rw [hpair]
    exact hout
  · rw [hpair, hp]
    rfl
  · rw [hpair, pairApply_kept hp]

end Sys2Proof.Machine
end

section
/-!
PROOF. The entry into SAFE, and the end of INIT in LOCKDOWN, SAFE or NORMAL.
-/

namespace Sys2Proof.Machine

set_option Elab.async false

/-! ### Records, sessions and the controller of states that agree -/

/-- Records come to the same journal in states that agree on it, on the tick, the episode and the policy (R127, R130). -/
theorem journaled_congr {s s' t : State} (bs : List RecBody) (hj : s'.jrn = s.jrn) (hc : s'.clk.tick = s.clk.tick)
    (he : s'.sup.episode = s.sup.episode) (hp : s'.prof.running.jrn.policy = s.prof.running.jrn.policy)
    (h : journaled bs s' t) : journaled bs s t := by
  refine Eq.trans h ?_
  clear h
  induction bs generalizing s s' with
  | nil => exact hj
  | cons b bs ih => exact ih (writeRec_jrn_congr b hj hc he hp) hc he hp

theorem committing_congr {s s' : State} (h : s'.nv = s.nv) (b : BankId) : committing b s' = committing b s := by
  simp only [committing, h]

theorem sessionAborted_congr {p : ProfileStore} {s s' t : State} (hp : s'.prof = s.prof) (hn : s'.nv = s.nv)
    (h : sessionAborted p s' t) : sessionAborted p s t := by
  unfold sessionAborted at h ⊢
  simpa only [sessionOpen_congr (congrArg ProfileStore.session hp), committing_congr hn, hp] using h

theorem cancelUnlock_of_open {s : State} (h : sessionOpen s = true) : (cancelUnlock s).prof = s.prof := by
  obtain ⟨due, p, ho⟩ := (sessionOpen_iff s).mp h
  simp [cancelUnlock, ho]

theorem sessionOpen_of_unlocked {s v : State} (hp : v.prof = (cancelUnlock s).prof) : sessionOpen v = sessionOpen s := by
  rw [sessionOpen_congr (congrArg ProfileStore.session hp), sessionOpen_cancelUnlock]

/-- An abort after a change of the supervisor state, told from the state before both (R156, R159). -/
theorem sessionAborted_of_unlocked {s v t : State} (hp : v.prof = (cancelUnlock s).prof) (hn : v.nv = s.nv)
    (h : sessionAborted v.prof v t) : sessionAborted (storeUnlocked s) s t := by
  rw [storeUnlocked, ← hp]
  cases ho : sessionOpen s
  · exact ⟨fun _ => h.1 ((sessionOpen_of_unlocked hp).trans ho), fun hc => nomatch hc.symm.trans ho⟩
  · exact sessionAborted_congr (hp.trans (cancelUnlock_of_open ho)) hn h

theorem withoutCommit_congr {s v : State} (hn : v.nv = s.nv) (hk : v.now = s.now) : withoutCommit v = withoutCommit s := by
  simp only [withoutCommit, committing_congr hn, hn, hk]

theorem nvAfterAbort_of_unlocked {s v : State} (hp : v.prof = (cancelUnlock s).prof) (hn : v.nv = s.nv) (hk : v.now = s.now) :
    nvAfterAbort v = nvAfterAbort s := by
  have hcommit : v.prof.commit = s.prof.commit := by rw [hp, cancelUnlock_prof_eq]
  simp only [nvAfterAbort, sessionOpen_of_unlocked hp, hcommit, withoutCommit_congr hn hk, hn]

theorem nvAfterAbort_congr {s v : State} (hp : v.prof = s.prof) (hn : v.nv = s.nv) (hk : v.now = s.now) :
    nvAfterAbort v = nvAfterAbort s := by
  simp only [nvAfterAbort, sessionOpen_congr (congrArg ProfileStore.session hp), hp, withoutCommit_congr hn hk, hn]

theorem abortSession_jrn (s : State) :
    journaled (if sessionOpen s then [.session .abort] else []) s (abortSession s) := by
  cases ho : sessionOpen s
  · simp [abortSession, ho, journaled]
  · simp only [abortSession, ho, if_true]
    exact Eq.trans ((only_abandonCommit _).same .jrn) (writeRec_jrn_congr _ rfl rfl rfl rfl)

/-! ### Entry into SAFE -/

theorem mergeActive_ack_iff (n : Fin 8) (p : Plan) :
    (mergeActive n p emptyPlan).ack = true ↔ p.ack = true ∧ p.pwrCut = false := by
  simp [mergeActive, emptyPlan, effectiveAck]

/-- SAFE has been entered with plan `n`, and no request created and no session aborted yet (R90, R91). -/
def safeWithPlan (n : Fin 8) (i : SrcId) (s : State) : State :=
  let s1 := changeState .safe (s.setSup { s.sup with alarms := [] })
  mergePlan n (s1.setSup { s1.sup with cause := some i, active := emptyPlan, dwell := none })

/-- SAFE has been entered, and an open session is still to be aborted (R90, R100). -/
def safeRequested (n : Fin 8) (i : SrcId) (s : State) : State :=
  if (safeWithPlan n i s).sup.active.ack then createRequest s.jrn.seq (safeWithPlan n i s) else safeWithPlan n i s

theorem enterSafe_eq (n : Fin 8) (i : SrcId) (s : State) : enterSafe n i s = abortSession (safeRequested n i s) := rfl

theorem planOf_of_running {s t : State} (h : t.prof.running = s.prof.running) : planOf t = planOf s := by
  funext n
  rw [planOf, planOf, h]

theorem only_safeRequested (n : Fin 8) (i : SrcId) (s : State) :
    onlyParts [.ack] (safeWithPlan n i s) (safeRequested n i s) := .also _ (.refl _ _) (only_createRequest _ _)

theorem safeWithPlan_sup (n : Fin 8) (i : SrcId) (s : State) :
    (safeWithPlan n i s).sup =
      { s.sup with
        state := .safe, alarms := [], cause := some i
        active := mergeActive n (planOf s n) emptyPlan
        dwell := some (addTicks s.now (tenMsTicks (planOf s n).dwell))
        hostReset := requestPulse (planOf s n) s.now s.sup.hostReset
        powerCut := requestCut (planOf s n) s.now s.sup.powerCut } := by
  simp [safeWithPlan, mergePlan, mergeDwell, planOf, State.now]

theorem safeWithPlan_prof (n : Fin 8) (i : SrcId) (s : State) : (safeWithPlan n i s).prof = (cancelUnlock s).prof := by
  simp only [safeWithPlan, mergePlan, setOut_prof, setSup_prof, changeState_prof]
  exact cancelUnlock_prof_congr rfl

theorem safeWithPlan_jrn (n : Fin 8) (i : SrcId) (s : State) :
    (safeWithPlan n i s).jrn = (writeRec (.state s.sup.state .safe) s).jrn := by
  simp only [safeWithPlan, mergePlan, setOut_jrn, setSup_jrn, changeState_jrn]
  exact writeRec_jrn_congr _ rfl rfl rfl rfl

theorem safeWithPlan_out (n : Fin 8) (i : SrcId) (s : State) :
    (safeWithPlan n i s).out =
      { s.out with epMin := mergeEpMin (planOf s n) s.prof.running.ep.min s.now s.out.epMin } := by
  simp [safeWithPlan, mergePlan, planOf, State.now]

/-- All that entry into SAFE with plan `n` and cause `i` leaves in `t` (R90, R91, R92, R100, R101, R159). -/
structure SafeEntered (n : Fin 8) (i : SrcId) (s t : State) : Prop where
  sup : t.sup =
    { s.sup with
      state := .safe, alarms := [], cause := some i
      active := mergeActive n (planOf s n) emptyPlan
      dwell := some (addTicks s.now (tenMsTicks (planOf s n).dwell))
      hostReset := requestPulse (planOf s n) s.now s.sup.hostReset
      powerCut := requestCut (planOf s n) s.now s.sup.powerCut }
  out : t.out = { s.out with epMin := mergeEpMin (planOf s n) s.prof.running.ep.min s.now s.out.epMin }
  ack : t.ack = { s.ack with req :=
    if (planOf s n).ack = true ∧ (planOf s n).pwrCut = false then some (newRequest s.jrn.seq s t) else s.ack.req }
  session : sessionAborted (storeUnlocked s) s t
  nv : t.nv = nvAfterAbort s
  jrn : journaled ([.state s.sup.state .safe] ++ if sessionOpen s then [.session .abort] else []) s t

/-- The request depends on the tick, the limit and the host-reset action (R100, R101). -/
theorem createRequest_ack {s u t : State} (q : Word) (hnow : u.now = s.now) (hrun : u.prof.running = s.prof.running)
    (hack : u.ack = s.ack) (hreset : t.sup.hostReset = u.sup.hostReset) :
    (createRequest q u).ack = { s.ack with req := some (newRequest q s t) } := by
  simp [createRequest, newRequest, hostResetIdle, hnow, hrun, hack, hreset]

theorem safeEntered_enterSafe (n : Fin 8) (i : SrcId) (s : State) : SafeEntered n i s (enterSafe n i s) := by
  have hreq := only_safeRequested n i s
  have hab : onlyParts [.jrn, .nv, .prof, .free] (safeRequested n i s) (enterSafe n i s) := by
    rw [enterSafe_eq]
    exact only_abortSession _
  have hprof : (safeRequested n i s).prof = (cancelUnlock s).prof := Eq.trans (hreq.same .prof) (safeWithPlan_prof n i s)
  have hnv : (safeRequested n i s).nv = s.nv := Eq.trans (hreq.same .nv) (by simp [safeWithPlan, mergePlan])
  have hclk : (safeRequested n i s).clk = s.clk := Eq.trans (hreq.same .clk) (by simp [safeWithPlan, mergePlan])
  have hsup : (enterSafe n i s).sup = _ := Eq.trans (hab.same .sup) (Eq.trans (hreq.same .sup) (safeWithPlan_sup n i s))
  obtain ⟨hsession, hctrl⟩ := abortSession_effect (safeRequested n i s)
  refine ⟨hsup, Eq.trans (hab.same .out) (Eq.trans (hreq.same .out) (safeWithPlan_out n i s)), ?ack,
    sessionAborted_of_unlocked hprof hnv hsession,
    hctrl.trans (nvAfterAbort_of_unlocked hprof hnv (congrArg Clock.tick hclk)), ?jrn⟩
  case ack =>
    have hack : (enterSafe n i s).ack = (safeRequested n i s).ack := hab.same .ack
    have hplan : (safeWithPlan n i s).sup.active.ack = true ↔ (planOf s n).ack = true ∧ (planOf s n).pwrCut = false := by
      rw [safeWithPlan_sup, mergeActive_ack_iff]
    rw [hack, safeRequested]
    by_cases hask : (planOf s n).ack = true ∧ (planOf s n).pwrCut = false
    · rw [if_pos (hplan.mpr hask), if_pos hask]
      refine createRequest_ack _ ?_ ?_ ?_ ?_
      · simp [safeWithPlan, mergePlan, State.now]
      · rw [safeWithPlan_prof, cancelUnlock_prof_running]
      · simp [safeWithPlan, mergePlan]
      · rw [hsup, safeWithPlan_sup]
    · rw [if_neg (hplan.not.mpr hask), if_neg hask]
      simp [safeWithPlan, mergePlan]
  case jrn =>
    have habort := abortSession_jrn (safeRequested n i s)
    rw [sessionOpen_of_unlocked hprof] at habort
    have hrun : (safeRequested n i s).prof.running = s.prof.running := by rw [hprof, cancelUnlock_prof_running]
    have hjrn : (safeRequested n i s).jrn = (writeRec (.state s.sup.state .safe) s).jrn :=
      Eq.trans (hreq.same .jrn) (safeWithPlan_jrn n i s)
    have hepisode : (safeRequested n i s).sup.episode = s.sup.episode := by
      rw [show (safeRequested n i s).sup = (safeWithPlan n i s).sup from hreq.same .sup, safeWithPlan_sup]
    exact journaled_congr (s := writeRec (.state s.sup.state .safe) s) _ hjrn (congrArg Clock.tick hclk) hepisode
      (congrArg (fun p => p.jrn.policy) hrun) habort

/-! ### The end of INIT -/

theorem latchBoot_src (i j : SrcId) (d : Byte) (s : State) :
    vget (latchBoot i d s).src j = if j = i then
      { (vget s.src i) with state := .active, cond := true, eff := some .critical, node := none, detail := d }
    else vget s.src j := by
  simp [latchBoot, vget_vset]

theorem latchProfile_src (j : SrcId) (s : State) :
    vget (latchProfile s).src j = if s.prof.dflt = true ∧ j = 49 then
      { (vget s.src 49) with
        state := .active, cond := true, eff := some .critical, node := none, detail := s.prof.s49Detail }
    else vget s.src j := by
  cases hd : s.prof.dflt <;> simp [latchProfile, hd, latchBoot_src, srcProfile]

theorem latchSelftest_passed {s : State} (h : s.st.lastFail = none) : latchSelftest s = s := by
  simp [latchSelftest, h]

theorem latchSelftest_failed {s : State} {n : Nat} (h : s.st.lastFail = some n) :
    latchSelftest s = latchBoot 48 (BitVec.ofNat 8 n) s := by
  simp [latchSelftest, h, srcSelftest]

theorem bootCause_eq (s : State) : bootCause s = if s.st.lastFail = none then 49 else 48 := by
  unfold bootCause
  cases s.st.lastFail <;> rfl

/-- The sources of the end of INIT are latched in a new episode, and SAFE has not been entered yet (R168). -/
def bootLatched (s : State) : State := latchSelftest (latchProfile (beginEpisode (bootCause s) s))

theorem only_bootLatched (s : State) : onlyParts [.sup, .src] s (bootLatched s) :=
  .trans (.trans (only_beginEpisode _ _).mono (only_latchProfile _).mono) (only_latchSelftest _).mono

theorem bootLatched_sup (s : State) :
    (bootLatched s).sup = { s.sup with episode := s.sup.episode + 1, first := some (bootCause s) } :=
  Eq.trans ((only_latchSelftest _).same .sup) ((only_latchProfile _).same .sup)

theorem endInitSafe_eq (s : State) : endInitSafe s = startWatchdog (enterSafe 0 (bootCause s) (bootLatched s)) := rfl

/-- What the end of INIT can change; the retained domain and the self-test are not among it (R168). -/
theorem only_endInitKeeping (s : State) :
    onlyParts [.clk, .hb, .src, .sup, .jrn, .prof, .ack, .out, .nv, .free, .wd] s (endInit s) := by
  unfold endInit
  simp only []
  refine .trans (only_finishInit s).mono (.ite _ ?_ (.ite _ ?_ ?_))
  · exact .trans (only_changeState _ _).mono (only_armHeartbeats _).mono
  · rw [endInitSafe_eq]
    exact .trans (.trans (.trans (only_bootLatched _).mono (only_enterSafe _ _ _).mono) (only_setWd _ _).mono)
      (only_armHeartbeats _).mono
  · exact .trans (.trans (only_changeState _ _).mono (only_setWd _ _).mono) (only_armHeartbeats _).mono

/-- The source records of the end of INIT in SAFE (R168). -/
theorem bootLatched_src_selftest {s : State} {n : Nat} (h : s.st.lastFail = some n) :
    vget (bootLatched s).src 48 = { (vget s.src 48) with
      state := .active, cond := true, eff := some .critical, node := none, detail := BitVec.ofNat 8 n } := by
  have hst : (latchProfile (beginEpisode (bootCause s) s)).st.lastFail = some n :=
    (congrArg SelfTest.lastFail ((only_latchProfile _).same .st)).trans h
  rw [bootLatched, latchSelftest_failed hst, latchBoot_src, if_pos rfl, latchProfile_src]
  simp [beginEpisode]

theorem bootLatched_src_other {s : State} {j : SrcId} (h : s.st.lastFail = none ∨ j ≠ 48) :
    vget (bootLatched s).src j = if s.prof.dflt = true ∧ j = 49 then
      { (vget s.src 49) with
        state := .active, cond := true, eff := some .critical, node := none, detail := s.prof.s49Detail }
    else vget s.src j := by
  have hst : (latchProfile (beginEpisode (bootCause s) s)).st.lastFail = s.st.lastFail :=
    congrArg SelfTest.lastFail ((only_latchProfile _).same .st)
  refine Eq.trans ?_ (latchProfile_src j (beginEpisode (bootCause s) s))
  rw [bootLatched]
  cases hf : s.st.lastFail with
  | none => rw [latchSelftest_passed (hst.trans hf)]
  | some n =>
    rw [latchSelftest_failed (hst.trans hf), latchBoot_src, if_neg (h.resolve_left (by simp [hf]))]

theorem bootLatched_src_quiet {s : State} {j : SrcId} (h48 : s.st.lastFail = none ∨ j ≠ 48)
    (h49 : s.prof.dflt = false ∨ j ≠ 49) : vget (bootLatched s).src j = vget s.src j := by
  rw [bootLatched_src_other h48, if_neg]
  rintro ⟨hd, hj⟩
  exact h49.elim (fun h => nomatch h.symm.trans hd) (absurd hj)

theorem wdAfterInit_eq (c : WdCfg) (now : Tick) (w : Watchdog) :
    wdAfterInit c now w =
      if c.enable then { w with phase := .initial (addTicks now (tenMsTicks c.initial)) } else w := rfl

/-- The fields of a state at the end of INIT that neither the watchdog nor the channels touch (R168). -/
theorem only_lastOfInit (s : State) : onlyParts [.wd, .hb] s (armHeartbeats (startWatchdog s)) :=
  .trans (only_setWd _ _).mono (only_armHeartbeats _).mono

theorem newRequest_congr {q : Word} {s v t w : State} (hnow : v.now = s.now) (hprof : v.prof = s.prof)
    (hsup : w.sup = t.sup) : newRequest q v w = newRequest q s t := by
  have hidle : hostResetIdle w = hostResetIdle t := by simp only [hostResetIdle, hsup]
  simp only [newRequest, hidle, hnow, hprof]

theorem running_of_aborted {s t : State} (h : sessionAborted (storeUnlocked s) s t) :
    t.prof.running = s.prof.running := by
  cases ho : sessionOpen s
  · rw [h.1 ho, storeUnlocked, cancelUnlock_prof_running]
  · rw [(h.2 ho).1]

/-- The sources at the end of INIT in SAFE, `t` holding the records of `bootLatched` (R168). -/
theorem bootSources {u t : State} (h : t.src = (bootLatched u).src) :
    (∀ n, u.st.lastFail = some n →
      vget t.src 48 = { (vget u.src 48) with
        state := .active, cond := true, eff := some .critical, node := none, detail := BitVec.ofNat 8 n }) ∧
      (u.st.lastFail = none → vget t.src 48 = vget u.src 48) ∧
      (u.prof.dflt = true →
        vget t.src 49 = { (vget u.src 49) with
          state := .active, cond := true, eff := some .critical, node := none, detail := u.prof.s49Detail }) ∧
      (u.prof.dflt = false → vget t.src 49 = vget u.src 49) ∧
      ∀ i, i ≠ 48 → i ≠ 49 → vget t.src i = vget u.src i := by
  rw [h]
  refine ⟨fun n hn => bootLatched_src_selftest hn, fun hn => bootLatched_src_quiet (.inl hn) (.inr (by decide)), fun hd => ?_,
    fun hd => bootLatched_src_quiet (.inr (by decide)) (.inl hd), fun i h48 h49 => bootLatched_src_quiet (.inr h48) (.inr h49)⟩
  rw [bootLatched_src_other (.inr (by decide)), if_pos ⟨hd, rfl⟩]

/-- INIT ends in SAFE (R80, R90, R100, R120, R168). -/
theorem initEndedInSafe_endInitSafe (u : State) : initEndedInSafe u (armHeartbeats (endInitSafe (finishInit u))) := by
  have hboot := only_bootLatched (finishInit u)
  have hsup := bootLatched_sup (finishInit u)
  have hkeep := only_enterSafe 0 (bootCause (finishInit u)) (bootLatched (finishInit u))
  have hsafe := safeEntered_enterSafe 0 (bootCause (finishInit u)) (bootLatched (finishInit u))
  have hrun := running_of_aborted hsafe.session
  rw [endInitSafe_eq]
  have hlast := only_lastOfInit (enterSafe 0 (bootCause (finishInit u)) (bootLatched (finishInit u)))
  have hsrc := bootSources (Eq.trans (hlast.same .src) (hkeep.same .src))
  generalize bootLatched (finishInit u) = v at *
  generalize hw : enterSafe 0 (bootCause (finishInit u)) v = w at *
  have hprof : v.prof = u.prof := hboot.same .prof
  have hnv : v.nv = u.nv := hboot.same .nv
  have hjrn : v.jrn = u.jrn := hboot.same .jrn
  have hackv : v.ack = u.ack := hboot.same .ack
  have hclk : v.clk = (finishInit u).clk := hboot.same .clk
  have hnow : v.now = u.now := Eq.trans (congrArg Clock.tick hclk) rfl
  have hplan : planOf v = planOf u := planOf_of_running (congrArg ProfileStore.running hprof)
  have hreq : newRequest v.jrn.seq v w = newRequest u.jrn.seq u (armHeartbeats (startWatchdog w)) := by
    rw [hjrn]
    exact newRequest_congr hnow hprof rfl
  have hack : (armHeartbeats (startWatchdog w)).ack =
      { u.ack with
        req := if (planOf u 0).ack = true ∧ (planOf u 0).pwrCut = false
          then some (newRequest u.jrn.seq u (armHeartbeats (startWatchdog w))) else u.ack.req } := by
    rw [← hreq, ← hackv, ← hplan]
    exact hsafe.ack
  obtain ⟨h48, h48', h49, h49', hothers⟩ := hsrc
  refine ⟨?sup, h48, h48', h49, h49', hothers, hack, fun hzero hyes hno => ?token, ?out, ?wd, ?session, ?nv, ?ret, ?st, ?jrn⟩
  case sup =>
    refine Eq.trans hsafe.sup ?_
    rw [hsup, hplan, hnow, bootCause_eq]
    rfl
  case token =>
    rw [hack, if_pos ⟨hyes, hno⟩, hzero]
    rfl
  case out =>
    refine Eq.trans hsafe.out ?_
    rw [hplan, hprof, hnow, show v.out = u.out from hboot.same .out]
  case wd =>
    have hwclk : w.clk = v.clk := hkeep.same .clk
    have hwwd : w.wd = u.wd := Eq.trans (hkeep.same .wd) (hboot.same .wd)
    have hwnow : w.now = u.now := (congrArg Clock.tick hwclk).trans hnow
    refine Eq.trans (wdAfterInit_eq _ _ _) ?_
    rw [hrun, hprof, hwnow, hwwd]
  case session =>
    refine sessionAborted_congr hprof hnv ?_
    have hunlocked : storeUnlocked u = storeUnlocked v := (cancelUnlock_prof_congr hprof).symm
    rw [hunlocked]
    exact hsafe.session
  case nv =>
    refine Eq.trans hsafe.nv ?_
    exact nvAfterAbort_congr hprof hnv hnow
  case ret => exact Eq.trans (hkeep.same .ret) (hboot.same .ret)
  case st => exact Eq.trans (hkeep.same .st) (hboot.same .st)
  case jrn =>
    have hopen : sessionOpen v = sessionOpen u := sessionOpen_congr (congrArg ProfileStore.session hprof)
    have hstate : v.sup.state = u.sup.state := by rw [hsup]; rfl
    have hepisode : v.sup.episode = u.sup.episode + 1 := by rw [hsup]; rfl
    have h := hsafe.jrn
    rw [hopen, hstate] at h
    exact journaled_congr (s := u.setSup { u.sup with episode := u.sup.episode + 1 }) _ hjrn hnow hepisode (by rw [hprof]; rfl) h

/-- INIT ends in NORMAL (R120, R168). -/
theorem initEndedInNormal_changeState (u : State) :
    initEndedInNormal u (armHeartbeats (startWatchdog (changeState .normal (finishInit u)))) := by
  have hlast := only_lastOfInit (changeState .normal (finishInit u))
  have hkeep := only_changeState .normal (finishInit u)
  have hfin := only_finishInit u
  refine ⟨Eq.trans (hlast.same .sup) (changeState_sup _ _), Eq.trans (hlast.same .src) (hkeep.same .src),
    Eq.trans (hlast.same .ack) (hkeep.same .ack), Eq.trans (hlast.same .out) (hkeep.same .out), ?wd, ?prof,
    Eq.trans (hlast.same .nv) (hkeep.same .nv), Eq.trans (hlast.same .ret) (hkeep.same .ret),
    Eq.trans (hlast.same .st) (hkeep.same .st), ?jrn⟩
  case wd =>
    refine Eq.trans (wdAfterInit_eq _ _ _) ?_
    rw [changeState_running, changeState_wd, changeState_now]
    rfl
  case prof =>
    refine Eq.trans (hlast.same .prof) ?_
    rw [changeState_prof]
    exact cancelUnlock_prof_congr rfl
  case jrn =>
    refine Eq.trans (hlast.same .jrn) ?_
    rw [changeState_jrn]
    exact writeRec_jrn_congr _ rfl rfl rfl rfl

/-- INIT ends in LOCKDOWN (R111, R120, R168). -/
theorem initEndedInLockdown_changeState (u : State) :
    initEndedInLockdown u (armHeartbeats (changeState .lockdown (finishInit u))) := by
  have hkeep := only_changeState .lockdown (finishInit u)
  refine ⟨changeState_sup _ _, hkeep.same .src, hkeep.same .ack, hkeep.same .out, hkeep.same .wd, ?prof, hkeep.same .nv,
    hkeep.same .ret, hkeep.same .st, ?jrn⟩
  case prof => exact (changeState_prof _ _).trans (cancelUnlock_prof_congr rfl)
  case jrn => exact (changeState_jrn _ _).trans (writeRec_jrn_congr _ rfl rfl rfl rfl)

theorem endInit_lockdown {u : State} (h : u.ret.sticky = true) :
    endInit u = armHeartbeats (changeState .lockdown (finishInit u)) := if_pos h

theorem endInit_safe {u : State} (hr : u.ret.sticky = false) (h : u.prof.dflt = true ∨ u.st.lastFail ≠ none) :
    endInit u = armHeartbeats (endInitSafe (finishInit u)) := by
  have hc : (u.prof.dflt || u.st.lastFail.isSome) = true := by simpa [Option.isSome_iff_ne_none] using h
  exact (if_neg (by simp [finishInit, hr])).trans (if_pos hc)

theorem endInit_normal {u : State} (hr : u.ret.sticky = false) (hd : u.prof.dflt = false) (hf : u.st.lastFail = none) :
    endInit u = armHeartbeats (startWatchdog (changeState .normal (finishInit u))) :=
  (if_neg (by simp [finishInit, hr])).trans (if_neg (by simp [finishInit, hd, hf]))

/-- At every end of INIT the enabled channels enter ARMING (R23, R39; log 12). -/
theorem endInit_hb (u : State) (i : Fin 4) :
    vget (endInit u).hb i = if (vget u.prof.running.hb i).enable then
      { (vget u.hb i) with state := .arming, counter := 0, ref := none } else vget u.hb i := by
  have hsafe := only_enterSafe 0 (bootCause (finishInit u)) (bootLatched (finishInit u))
  have hboot := only_bootLatched (finishInit u)
  unfold endInit
  simp only []
  split
  · rw [armHeartbeats_hb, changeState_running, changeState_hb]
    rfl
  · split
    · rw [armHeartbeats_hb, endInitSafe_eq]
      have hhb : (enterSafe 0 (bootCause (finishInit u)) (bootLatched (finishInit u))).hb = u.hb :=
        Eq.trans (hsafe.same .hb) (hboot.same .hb)
      have hprof : (bootLatched (finishInit u)).prof = u.prof := hboot.same .prof
      simp only [startWatchdog, setWd_prof, setWd_hb, running_of_aborted (safeEntered_enterSafe _ _ _).session, hprof, hhb]
    · rw [armHeartbeats_hb, startWatchdog, setWd_prof, setWd_hb, changeState_running, changeState_hb]
      rfl

/-- All that the end of INIT does (R23, R39, R167, R168). -/
theorem initEnded_endInit (u : State) : initEnded u (endInit u) := by
  refine ⟨endInit_clk u, fun hr => ?_, fun hr h => ?_, fun hr hd hf => ?_, endInit_hb u⟩
  · rw [endInit_lockdown hr]
    exact initEndedInLockdown_changeState u
  · rw [endInit_safe hr h]
    exact initEndedInSafe_endInitSafe u
  · rw [endInit_normal hr hd hf]
    exact initEndedInNormal_changeState u

/-- The recomputation of nCRIT adds nothing to the end of INIT. -/
theorem initEnded_refreshCrit {u t : State} (h : initEnded u t) : initEnded u (refreshCrit t) := h

end Sys2Proof.Machine
end

section
/-!
PROOF. The self-test: what each check asks, and what the step that completes leaves.
-/

namespace Sys2Proof.Machine

set_option Elab.async false

/-! ### The checks of the self-test -/

theorem badHbWindow_iff (p : Profile) :
    badHbWindow p = false ↔ ∀ i, (vget p.hb i).min.toNat < (vget p.hb i).max.toNat := by
  simp only [badHbWindow, List.any_eq_false, mem_toList_iff_vget, forall_exists_index, forall_apply_eq_imp_iff,
    decide_eq_true_eq, not_le]

theorem descBadAlarm_iff (d : Desc) :
    ¬ descBadAlarm d = true ↔
      (d.enable = true → d.alarmTime = 0 → d.cls ≠ .alarm ∧ (d.cls = .notice → d.promoteAt = 0)) := by
  unfold descBadAlarm
  cases d.enable <;> cases d.cls <;> simp

theorem badAlarmTime_iff (p : Profile) :
    badAlarmTime p = false ↔ ∀ i, (vget p.desc i).enable = true → (vget p.desc i).alarmTime = 0 →
      (vget p.desc i).cls ≠ .alarm ∧ ((vget p.desc i).cls = .notice → (vget p.desc i).promoteAt = 0) := by
  simp only [badAlarmTime, List.any_eq_false, mem_toList_iff_vget, forall_exists_index, forall_apply_eq_imp_iff,
    descBadAlarm_iff]

theorem plansInRange_iff (p : Profile) :
    p.plans.toList.all planInRange = true ↔ ∀ k, (vget p.plans k).hrstPulse ≠ 0 ∧ (vget p.plans k).dwell ≠ 0 := by
  simp only [List.all_eq_true, mem_toList_iff_vget, forall_exists_index, forall_apply_eq_imp_iff, planInRange,
    Bool.and_eq_true, bne_iff_ne]

theorem profileSound_iff (p : Profile) :
    profileSound p = true ↔ (∀ k, (vget p.plans k).hrstPulse ≠ 0 ∧ (vget p.plans k).dwell ≠ 0) ∧
      (∀ i, (vget p.hb i).min.toNat < (vget p.hb i).max.toNat) ∧
      ∀ i, (vget p.desc i).enable = true → (vget p.desc i).alarmTime = 0 →
        (vget p.desc i).cls ≠ .alarm ∧ ((vget p.desc i).cls = .notice → (vget p.desc i).promoteAt = 0) := by
  rw [← plansInRange_iff, ← badHbWindow_iff, ← badAlarmTime_iff, profileSound]
  simp only [Bool.and_eq_true, Bool.not_eq_true', and_assoc]

/-- A NOTICE that the shadow supervisor dispatches is written to the shadow journal, and no more (R82, R169). -/
theorem dispatch_shadow_notice (s : State) :
    dispatch (testOcc .notice) (shadow s) = writeRec (raiseBody (testOcc .notice) false) (shadow s) := rfl

theorem shadowPasses_iff (s : State) :
    shadowPasses s = true ↔
      (dispatch (testOcc .notice) (shadow s)).sup = (shadow s).sup ∧
      (dispatch (testOcc .alarm) (shadow s)).sup.state = .alert ∧
      (dispatch (testOcc .alarm) (shadow s)).sup.alarms.length = 1 ∧
      (dispatch (testOcc .critical) (shadow s)).sup.state = .safe ∧
      (dispatch (testOcc .critical) (shadow s)).sup.active = mergeActive 0 (planOf s 0) emptyPlan := by
  have hack : (dispatch (testOcc .notice) (shadow s)).ack = (shadow s).ack := by
    rw [dispatch_shadow_notice, writeRec_ack]
  simp only [shadowPasses, Bool.and_eq_true, decide_eq_true_eq, hack, and_true, and_assoc]

/-- The check of each step, as the model performs it (R169). -/
theorem selftestPasses_iff (n : Nat) (f : BitVec 8) (c : Nat) (s : State) :
    selftestPasses n f c s = true ↔ checkPasses n f c s := by
  rcases n with _ | _ | _ | _ | _ | _ | n
  case zero => simp [selftestPasses, checkPasses]
  case succ.zero => simp [selftestPasses, checkPasses]
  case succ.succ.zero =>
    simp [selftestPasses, checkPasses, profileSound_iff]
  case succ.succ.succ.zero => simp [selftestPasses, checkPasses, shadowPasses_iff]
  case succ.succ.succ.succ.zero => simp [selftestPasses, checkPasses]
  case succ.succ.succ.succ.succ.zero => simp [selftestPasses, checkPasses]
  case succ.succ.succ.succ.succ.succ => simp [selftestPasses, checkPasses]

/-! ### The step that completes -/

theorem stepSelftest_due {n : Nat} {due : Tick} {s : State} (hs : s.st.result = .running n due) (hd : isDue s.now due = true)
    (f : BitVec 8) (c : Nat) : stepSelftest f c s = completeSelftest n f c s := by
  simp [stepSelftest, hs, hd]

theorem completeSelftest_fails {n : Nat} {f : BitVec 8} {c : Nat} {s : State} (h : ¬ checkPasses n f c s) :
    completeSelftest n f c s = afterRun (s.setSt { result := .fail n, lastFail := some n }) :=
  if_pos (Bool.eq_false_iff.mpr ((selftestPasses_iff n f c s).not.mpr h))

theorem completeSelftest_passes {n : Nat} {f : BitVec 8} {c : Nat} {s : State} (h : checkPasses n f c s) (hn : 5 ≤ n) :
    completeSelftest n f c s = afterRun (s.setSt { result := .pass, lastFail := none }) :=
  (if_neg (by simp [(selftestPasses_iff n f c s).mpr h])).trans (if_pos hn)

theorem completeSelftest_continues {n : Nat} {f : BitVec 8} {c : Nat} {s : State} (h : checkPasses n f c s) (hn : n < 5) :
    completeSelftest n f c s = s.setSt { s.st with result := .running (n + 1) (addTicks s.now 8) } :=
  (if_neg (by simp [(selftestPasses_iff n f c s).mpr h])).trans (if_neg (by omega))

/-- A step that fails, and a fifth step, end the run (R169). -/
theorem completeSelftest_ends {n : Nat} {f : BitVec 8} {c : Nat} {s : State} (h : ¬ checkPasses n f c s ∨ 5 ≤ n) :
    ∃ r, completeSelftest n f c s = afterRun (s.setSt r) := by
  by_cases hp : checkPasses n f c s
  · exact ⟨_, completeSelftest_passes hp (h.resolve_left (not_not_intro hp))⟩
  · exact ⟨_, completeSelftest_fails hp⟩

theorem endInit_st (s : State) : (endInit s).st = s.st := (only_endInitKeeping s).same .st

theorem afterRun_st (s : State) : (afterRun s).st = s.st := by
  unfold afterRun
  split
  · exact endInit_st s
  · rfl

theorem afterRun_inInit {s : State} (hs : s.sup.state = .init) (hi : s.clk.initStep = .selftest) : afterRun s = endInit s :=
  if_pos ⟨hs, hi⟩

theorem afterRun_outside {s : State} (h : s.sup.state ≠ .init ∨ s.clk.initStep ≠ .selftest) : afterRun s = s :=
  if_neg fun hc => h.elim (absurd hc.1) (absurd hc.2)

/-- Settles O48: the outcome of the due step by its check, and the end of INIT by `initEnded_endInit`. -/
theorem selftestStepCompletes : Obligations.SelftestStepCompletes := by
  intro n due f c s hr hs hd
  refine ⟨_, congrArg Host.Outcome.next (inStageD_running hr), ?_⟩
  have hinit : onlyParts (.crit :: initParts) s (refreshCrit (stepSelftest f c s)) :=
    .trans (only_stepSelftest f c s).mono (only_refreshCrit _).mono
  rw [stepSelftest_due hs hd] at hinit ⊢
  refine ⟨fun hp => ?fails, fun hp hn => ?passes, fun hp hn => ?continues, fun hsi hstep hend => ⟨hinit, ?ended⟩,
    fun houtside => ?outside⟩
  case fails => exact (congrArg State.st (completeSelftest_fails hp)).trans (afterRun_st _)
  case passes => exact (congrArg State.st (completeSelftest_passes hp hn)).trans (afterRun_st _)
  case continues => exact congrArg State.st (completeSelftest_continues hp hn)
  case ended =>
    obtain ⟨r, he⟩ := completeSelftest_ends hend
    have hst : (refreshCrit (completeSelftest n f c s)).st = r := (congrArg State.st he).trans (afterRun_st _)
    rw [hst, he, afterRun_inInit (s := s.setSt r) hsi hstep]
    exact initEnded_refreshCrit (initEnded_endInit _)
  case outside =>
    refine .trans ?_ (only_refreshCrit _).mono
    by_cases hend : ¬ checkPasses n f c s ∨ 5 ≤ n
    · obtain ⟨r, he⟩ := completeSelftest_ends hend
      have hout : s.sup.state ≠ .init ∨ s.clk.initStep ≠ .selftest :=
        houtside.imp_right fun h => h.resolve_right fun ⟨hp, hn⟩ => hend.elim (absurd hp) (by omega)
      rw [he, afterRun_outside (s := s.setSt r) hout]
      exact (only_setSt _ _).mono
    · obtain ⟨hp, hn⟩ := not_or.mp hend
      rw [completeSelftest_continues (not_not.mp hp) (by omega)]
      exact (only_setSt _ _).mono

end Sys2Proof.Machine
end

section
/-!
PROOF. The NV Controller: how the next operation begins, where an archive write goes, and what archive writes, erasures and commits
leave as they complete.
-/

namespace Sys2Proof.Machine

set_option Elab.async false

/-! ### The next operation begins -/

theorem setProf_self (s : State) : s.setProf s.prof = s := by cases s; rfl

theorem setNv_self (s : State) : s.setNv s.nv = s := by cases s; rfl

/-- An idle controller begins the oldest request, and a commit that begins removes the marker of its bank (R152, R160, R164). -/
theorem nvBegin_idle {s : State} (h : s.nv.cur = none) :
    nvBegin s = (s.setNv (nvAdvanced s)).setProf (storeAdvanced s s.prof) := by
  unfold nvBegin nvAdvanced storeAdvanced
  cases hq : s.nv.queue with
  | nil =>
    have hnv : s.nv = { cur := none, queue := [] } := by rw [← h, ← hq]
    simp only [h]
    rw [← hnv, setNv_self]
    exact (setProf_self s).symm
  | cons op rest =>
    simp only [h]
    cases op <;> rfl

/-- An operation is over and the next begins (R164). -/
theorem nvFinish_eq (s : State) : nvFinish s = (s.setNv (nvAdvanced s)).setProf (storeAdvanced s s.prof) :=
  nvBegin_idle (s := s.setNv { s.nv with cur := none }) rfl

/-- No commit waits, so that the store is as it was when the next operation begins (R160). -/
theorem storeAdvanced_noCommit {s : State} (h : ∀ b g p, NvOp.commit b g p ∉ s.nv.queue) (p : ProfileStore) :
    storeAdvanced s p = p := by
  unfold storeAdvanced
  split
  · rename_i b g q rest hq
    exact absurd (by simp [hq]) (h b g q)
  · rfl

theorem nvFinish_noCommit {s : State} (h : ∀ b g p, NvOp.commit b g p ∉ s.nv.queue) :
    nvFinish s = s.setNv (nvAdvanced s) := by
  rw [nvFinish_eq, storeAdvanced_noCommit h]
  rfl

/-! ### The operation that a row completes -/

theorem finishOp_ready {wanted : NvOp → Bool} {op : NvOp} {k : Tick} {s : State} (hc : s.nv.cur = some (op, k))
    (hw : wanted op = true) (hk : nvMinTicks op ≤ (s.now - k).toNat) : finishOp wanted s = completeNv s := by
  have hready : nvReady op k s.now true = true := by
    rw [nvReady, decide_eq_true hk]
    rfl
  simp [finishOp, hc, hw, stepNv, hready]

theorem completeNv_archWrite {e : ArchEntry} {k : Tick} {s : State} (hc : s.nv.cur = some (.archWrite e, k)) :
    completeNv s = completeArchWrite e s := by
  simp [completeNv, hc]

theorem completeNv_erase {k : Tick} {s : State} (hc : s.nv.cur = some (.erase, k)) : completeNv s = completeErase s := by
  simp [completeNv, hc]

theorem completeNv_commit {b : BankId} {g : Word} {p : Profile} {k : Tick} {s : State}
    (hc : s.nv.cur = some (.commit b g p, k)) : completeNv s = completeCommit b g p s := by
  simp [completeNv, hc]

/-! ### Where an archive write goes -/

theorem ordFollows_iff (a b : Byte) : ordFollows a b = true ↔ 1 ≤ (b - a).toNat ∧ (b - a).toNat ≤ 127 := by
  simp [ordFollows]

/-- No claimed slot follows slot `i` exactly when it is the newest (R137). -/
theorem noneFollows_iff (slots : Vector ArchSlot 4) (i : Fin 4) :
    noneFollows slots i = true ↔ ∃ o, newestWith slots i o := by
  unfold noneFollows newestWith
  cases hi : claimOrd (vget slots i) with
  | none => simp
  | some a =>
    simp only [List.all_eq_true, List.mem_finRange, forall_const, Bool.or_eq_true, beq_iff_eq, Option.some.injEq,
      exists_eq_left']
    refine forall_congr' fun j => ?_
    cases hj : claimOrd (vget slots j) with
    | none => simp
    | some b =>
      simp only [← ordFollows_iff, Option.some.injEq, Bool.not_eq_true, Bool.not_eq_true']
      refine ⟨?_, fun h => or_iff_not_imp_left.mpr fun hne => h b hne rfl⟩
      rintro (rfl | h) _ hne rfl
      · exact absurd rfl hne
      · exact h

/-- A slot that alone is newest is the newest slot (R137). -/
theorem newestSlot_of_unique {slots : Vector ArchSlot 4} {n : Fin 4} {a : Byte} (h : newestWith slots n a)
    (hu : ∀ m b, newestWith slots m b → m = n) : newestSlot slots = some n := by
  have hclaim : (List.finRange 4).all (fun j => (claimOrd (vget slots j)).isNone) = false := by
    simp only [List.all_eq_false, List.mem_finRange, true_and]
    exact ⟨n, by simp [h.1]⟩
  have hmem (m : Fin 4) : m ∈ (List.finRange 4).filter (noneFollows slots) ↔ m ∈ [n] := by
    simp only [List.mem_filter, List.mem_finRange, true_and, noneFollows_iff, List.mem_singleton]
    exact ⟨fun ⟨b, hb⟩ => hu m b hb, fun hm => ⟨a, hm ▸ h⟩⟩
  have hfilter : (List.finRange 4).filter (noneFollows slots) = [n] :=
    List.perm_singleton.mp ((List.perm_ext_iff_of_nodup ((List.nodup_finRange 4).filter _) (List.nodup_singleton n)).mpr hmem)
  rw [newestSlot, hclaim, hfilter]
  rfl

theorem newestSlot_none {slots : Vector ArchSlot 4} (h : ∀ j, claimOrd (vget slots j) = none) : newestSlot slots = none := by
  simp [newestSlot, h]

/-- An archive write goes where R137 says (R137). -/
theorem writeGoesTo_archTarget (slots : Vector ArchSlot 4) :
    writeGoesTo slots (archTarget slots).1 (archTarget slots).2 := by
  refine ⟨fun h => ?_, fun n a hn hu => ?_⟩
  · simp [archTarget, newestSlot_none h]
  · simp [archTarget, newestSlot_of_unique hn hu, hn.1]

/-- After a completed archive write (R137). -/
theorem slotWritten_archStore {e : ArchEntry} {s t : State} (h : t.arch.slots = (archStore e s.arch).slots) :
    slotWritten e s t := by
  refine ⟨_, _, writeGoesTo_archTarget s.arch.slots, ?_, fun j hj => ?_⟩
  · rw [h, archStore, vget_vset_same, readSlot_writtenSlot]
  · rw [h, archStore, vget_vset_ne _ _ _ _ hj]

/-! ### The snapshot of INIT -/

theorem archSelect_zero {slots : Vector ArchSlot 4} {n : Fin 4} (h : newestSlot slots = some n) : archSelect slots 0 = n := by
  simp [archSelect, h]

/-- The slots after the first archive write of an empty archive: slot 0 alone has a claim (R137). -/
theorem newestSlot_firstWrite {e : ArchEntry} {a : Archive} (h : ∀ j, claimOrd (vget a.slots j) = none) :
    (archStore e a).slots = vset a.slots 0 (writtenSlot 0 e) ∧ newestSlot (archStore e a).slots = some 0 := by
  have hslots : (archStore e a).slots = vset a.slots 0 (writtenSlot 0 e) := by
    simp [archStore, archTarget, newestSlot_none h]
  have hother (j : Fin 4) (hj : j ≠ 0) : claimOrd (vget (vset a.slots 0 (writtenSlot 0 e)) j) = none := by
    rw [vget_vset_ne _ _ _ _ hj, h j]
  refine ⟨hslots, ?_⟩
  rw [hslots]
  refine newestSlot_of_unique (a := 0) ⟨by simp, fun j b hj hb => ?_⟩ fun m b hm => ?_
  · exact nomatch (hother j hj).symm.trans hb
  · by_contra hne
    exact nomatch (hother m hne).symm.trans hm.1

/-- The snapshot that INIT takes after its archive write (R138, R167). -/
def initArchive (e : ArchEntry) (a : Archive) : Archive := archSnapshot 0 (archStore e a)

theorem initArchive_slots (e : ArchEntry) (a : Archive) : (initArchive e a).slots = (archStore e a).slots := rfl

theorem initArchive_view_first {e : ArchEntry} {a : Archive} (h : ∀ j, claimOrd (vget a.slots j) = none) :
    (initArchive e a).view = .valid 0 e := by
  obtain ⟨hslots, hnewest⟩ := newestSlot_firstWrite (e := e) h
  rw [initArchive, archSnapshot, archSelect_zero hnewest, hslots, vget_vset_same, readSlot_writtenSlot]

theorem initArchive_view_newest {e : ArchEntry} {a : Archive} {n : Fin 4} {o : Byte}
    (hn : newestWith (initArchive e a).slots n o) (hu : ∀ m b, newestWith (initArchive e a).slots m b → m = n) :
    (initArchive e a).view = readSlot (vget (initArchive e a).slots n) := by
  rw [initArchive_slots] at hn hu ⊢
  rw [initArchive, archSnapshot, archSelect_zero (newestSlot_of_unique hn hu)]

/-! ### What completes -/

theorem completeErase_eq (s : State) :
    completeErase s = ((s.setArch (archErase s.arch)).setNv (nvAdvanced s)).setProf (storeAdvanced s s.prof) :=
  nvFinish_eq _

/-- The store with the bank of a completed commit, before the next operation begins (R160). -/
def storeCommitted (b : BankId) (g : Word) (p : Profile) (q : ProfileStore) : ProfileStore :=
  { setBank b (writtenBank g p) q with curBank := some b, gen := g, commit := .done }

theorem bankOf_storeCommitted (b : BankId) (g : Word) (p : Profile) (q : ProfileStore) :
    bankOf b (storeCommitted b g p q) = writtenBank g p := by
  cases b <;> rfl

theorem storeCommitted_running (b : BankId) (g : Word) (p : Profile) (q : ProfileStore) :
    (storeCommitted b g p q).running = q.running := by
  cases b <;> rfl

/-- A commit that completes with no commit waiting (R160, R164). -/
theorem completeCommit_eq {b : BankId} {g : Word} {p : Profile} {s : State}
    (h : ∀ b' g' p', NvOp.commit b' g' p' ∉ s.nv.queue) :
    completeCommit b g p s =
      (writeRec (.session .commit) (s.setProf (storeCommitted b g p s.prof))).setNv (nvAdvanced s) :=
  nvFinish_noCommit (s := writeRec _ (s.setProf _)) h

theorem completeCommit_jrn (b : BankId) (g : Word) (p : Profile) (s : State) :
    (writeRec (.session .commit) (s.setProf (storeCommitted b g p s.prof))).jrn = (writeRec (.session .commit) s).jrn :=
  writeRec_jrn_congr _ rfl rfl rfl (congrArg (fun q => q.jrn.policy) (storeCommitted_running b g p s.prof))

/-- An archive write that completes outside its step of INIT (R137, R164). -/
theorem completeArchWrite_outside {e : ArchEntry} {s : State} (h : s.sup.state ≠ .init) :
    completeArchWrite e s =
      ((s.setArch (archStore e s.arch)).setNv (nvAdvanced s)).setProf (storeAdvanced s s.prof) := by
  have hfinish : nvFinish (s.setArch (archStore e s.arch)) =
      ((s.setArch (archStore e s.arch)).setNv (nvAdvanced s)).setProf (storeAdvanced s s.prof) := nvFinish_eq _
  unfold completeArchWrite
  simp only [hfinish]
  exact if_neg fun hc => h hc.1

/-- The state in which INIT goes on after its archive write, the controller idle (R138, R164, R167). -/
def initWritten (e : ArchEntry) (s : State) : State :=
  (s.setNv { cur := none, queue := [] }).setArch (initArchive e s.arch)

/-- The archive write of INIT completes with nothing waiting (R138, R164, R167). -/
theorem completeArchWrite_inInit {e : ArchEntry} {s : State} (hq : s.nv.queue = []) (hs : s.sup.state = .init)
    (hi : s.clk.initStep = .archive) :
    completeArchWrite e s = afterArchive (initWritten e s) := by
  have hfinish : nvFinish (s.setArch (archStore e s.arch)) =
      (s.setArch (archStore e s.arch)).setNv { cur := none, queue := [] } := by
    simp [nvFinish, nvBegin, hq]
  unfold completeArchWrite
  simp only [hfinish]
  exact if_pos ⟨hs, hi⟩

theorem afterArchive_selftest {s : State} (h : s.ret.sticky = false ∧ s.prof.running.stAtInit = true) :
    afterArchive s = startSelftest (s.setClk { s.clk with initStep := .selftest }) := by
  simp [afterArchive, h]

theorem afterArchive_ends {s : State} (h : ¬ (s.ret.sticky = false ∧ s.prof.running.stAtInit = true)) :
    afterArchive s = endInit s := if_neg (by simpa using h)

/-- INIT goes on from its archive write without another change of the archive (R167). -/
theorem afterArchive_arch (s : State) : (afterArchive s).arch = s.arch := by
  unfold afterArchive
  split
  · rfl
  · exact (only_endInitKeeping s).same .arch

theorem only_initWritten (e : ArchEntry) (s : State) : onlyParts [.nv, .arch] s (initWritten e s) :=
  .trans (only_setNv _ _).mono (only_setArch _ _).mono

/-- INIT goes on with the power-up self-test, or ends (R167, R169). -/
theorem initGoesOn {e : ArchEntry} {s t : State} (h : t = refreshCrit (afterArchive (initWritten e s))) :
    if s.ret.sticky = false ∧ s.prof.running.stAtInit = true then
      onlyParts [.clk, .nv, .arch, .st, .crit] s t ∧ t.nv = { cur := none, queue := [] } ∧
        t.clk = { s.clk with initStep := .selftest } ∧
        t.st = { s.st with result := .running 1 (addTicks s.now 8) } ∧ t.sup = s.sup
    else initEnded (initWritten e s) t := by
  rw [h]
  by_cases hst : (initWritten e s).ret.sticky = false ∧ (initWritten e s).prof.running.stAtInit = true
  · rw [afterArchive_selftest hst]
    refine (if_pos hst).mpr ⟨?_, rfl, rfl, rfl, rfl⟩
    exact .trans (.trans (.trans (only_initWritten e s).mono (only_setClk _ _).mono) (only_setSt _ _).mono)
      (only_refreshCrit _).mono
  · rw [afterArchive_ends hst]
    exact (if_neg hst).mpr (initEnded_refreshCrit (initEnded_endInit _))

/-- What an archive operation that completes leaves when the next one begins (R137, R139, R164). -/
theorem only_archiveThenNext (a : Archive) (c : NvCtrl) (p : ProfileStore) (s : State) :
    onlyParts [.arch, .nv, .prof, .crit] s (refreshCrit (((s.setArch a).setNv c).setProf p)) :=
  .trans (.trans (.trans (only_setArch _ _).mono (only_setNv _ _).mono) (only_setProf _ _).mono) (only_refreshCrit _).mono

/-- Settles O50: each kind of operation by the equation of what completes it. -/
theorem nvOperationsBeginAndComplete : Obligations.NvOperationsBeginAndComplete := by
  refine ⟨fun op rest s hr hc hq => ?begins, fun e k s hr hc hs => ?archive, fun e k s hr hc hq hs hi => ?inInit,
    fun k s hr hc => ?erase, fun b g p k s hr hc hk hno => ?commit⟩
  case begins =>
    refine ⟨_, congrArg Host.Outcome.next (inBatch_running hr), ?_⟩
    rw [nvBegin_idle hc]
    simp only [nvAdvanced, hq]
  case archive =>
    have hrow : finishOp isArchWrite s = _ :=
      ((finishOp_ready hc rfl (Nat.zero_le _)).trans (completeNv_archWrite hc)).trans (completeArchWrite_outside hs)
    refine ⟨_, congrArg Host.Outcome.next (inStageD_running hr), ?_⟩
    rw [hrow]
    exact ⟨only_archiveThenNext _ _ _ _, rfl, rfl, rfl, slotWritten_archStore rfl⟩
  case inInit =>
    have hframe : onlyParts (.crit :: initParts) s (refreshCrit (finishOp isArchWrite s)) :=
      .trans (only_finishOp _ s).mono (only_refreshCrit _).mono
    have hrow : finishOp isArchWrite s = _ :=
      ((finishOp_ready hc rfl (Nat.zero_le _)).trans (completeNv_archWrite hc)).trans (completeArchWrite_inInit hq hs hi)
    refine ⟨_, congrArg Host.Outcome.next (inStageD_running hr), hframe, ?_⟩
    rw [hrow]
    have harch : (refreshCrit (afterArchive (initWritten e s))).arch = initArchive e s.arch := afterArchive_arch _
    have hslots : (refreshCrit (afterArchive (initWritten e s))).arch.slots = (archStore e s.arch).slots :=
      Eq.trans (congrArg Archive.slots harch) (initArchive_slots e s.arch)
    refine ⟨slotWritten_archStore hslots, ?_⟩
    rw [harch]
    exact ⟨initArchive_view_first, fun n a hn hu => initArchive_view_newest hn hu, initGoesOn rfl⟩
  case erase =>
    have hrow : finishOp isErase s = _ :=
      ((finishOp_ready hc rfl (Nat.zero_le _)).trans (completeNv_erase hc)).trans (completeErase_eq s)
    refine ⟨_, congrArg Host.Outcome.next (inStageD_running hr), ?_⟩
    rw [hrow]
    refine ⟨only_archiveThenNext _ _ _ _, rfl, rfl, rfl, fun i => ?_⟩
    have hslot : vget (archErase s.arch).slots i = erasedSlot := vget_replicate _ _
    exact (congrArg readSlot hslot).trans readSlot_erasedSlot
  case commit =>
    have hrow : finishOp isCommit s = _ :=
      ((finishOp_ready hc rfl hk).trans (completeNv_commit hc)).trans (completeCommit_eq hno)
    refine ⟨_, congrArg Host.Outcome.next (inStageD_running hr), ?_⟩
    rw [hrow]
    have hprof : (refreshCrit ((writeRec (.session .commit) (s.setProf (storeCommitted b g p s.prof))).setNv
        (nvAdvanced s))).prof = storeCommitted b g p s.prof := rfl
    refine ⟨?_, rfl, ?_, ?_, completeCommit_jrn b g p s⟩
    · exact .trans (.trans (.trans (only_setProf _ _).mono (only_writeRec _ _).mono) (only_setNv _ _).mono)
        (only_refreshCrit _).mono
    · rw [hprof, bankOf_storeCommitted]
      rfl
    · rw [hprof, bankOf_storeCommitted, readBank_writtenBank]

end Sys2Proof.Machine
end

section
/-!
PROOF. The receiver: what levels of LRX do to a receiver that ignores them, the checks of a complete message, and the events that
end or fail a message.
-/

namespace Sys2Proof.Machine

set_option Elab.async false

/-! ### Receivers that ignore LRX -/

/-- The receiver ignores the bytes on LRX: it is neither ready nor within a message (R41, R57). -/
def ignoresLrx (rx : RxState) : Bool :=
  match rx with
  | .ready => false
  | .assembling _ _ => false
  | .notReady _ => true
  | .off _ => true
  | .wakeWatch _ => true

theorem ignoresLrx_eq_false_iff (rx : RxState) :
    ignoresLrx rx = false ↔ rx = .ready ∨ ∃ bytes bits, rx = .assembling bytes bits := by
  cases rx <;> simp [ignoresLrx]

theorem rxIgnore_afterComplete {run : Bool} {l : Link} (h : l.rx = .notReady (.afterComplete run)) :
    rxIgnore l = { l with rx := .notReady (.afterComplete true) } := by simp [rxIgnore, h]

theorem rxIgnore_uncounting {l : Link} (h : l.rx = .notReady .afterFail ∨ l.rx = .notReady .uncounted) : rxIgnore l = l := by
  rcases h with h | h <;> simp [rxIgnore, h]

theorem rxIgnore_off {idle : Bool} {l : Link} (h : l.rx = .off idle) : rxIgnore l = { l with rx := .off false } := by
  simp [rxIgnore, h]

theorem rxIgnore_wakeWatch {idle : Bool} {l : Link} (h : l.rx = .wakeWatch idle) :
    rxIgnore l = { l with rx := .wakeWatch false } := by simp [rxIgnore, h]

theorem rxIgnore_idem (l : Link) : rxIgnore (rxIgnore l) = rxIgnore l := by
  cases h : l.rx with
  | notReady why => cases why <;> simp [rxIgnore, h]
  | _ => simp [rxIgnore, h]

theorem ignoresLrx_rxIgnore (l : Link) : ignoresLrx (rxIgnore l).rx = ignoresLrx l.rx := by
  cases h : l.rx with
  | notReady why => cases why <;> simp [rxIgnore, ignoresLrx, h]
  | _ => simp [rxIgnore, ignoresLrx, h]

theorem rxLevel_ignored {l : Link} (h : ignoresLrx l.rx = true) (c : LinkCfg) (x : Bool) :
    rxLevel c x l = if x then l else rxIgnore l := by
  cases hr : l.rx <;> simp [rxLevel, hr]
  case ready | assembling => simp [ignoresLrx, hr] at h

theorem rxFail_ignored {l : Link} (h : ignoresLrx l.rx = true) (count : Link → Link) : rxFail count l = rxIgnore l := by
  cases hr : l.rx <;> simp [rxFail, hr]
  case ready | assembling => simp [ignoresLrx, hr] at h

theorem rxFail_counted {l : Link} (h : ignoresLrx l.rx = false) (count : Link → Link) :
    rxFail count l = { count l with rx := .notReady .afterFail } := by
  obtain hr | ⟨bytes, bits, hr⟩ := (ignoresLrx_eq_false_iff l.rx).mp h <;> simp [rxFail, hr]

/-! ### Levels at such a receiver -/

theorem watchesWake_iff (s : State) :
    watchesWake s = true ↔ s.sup.state = .standby ∧ ∃ idle, s.link.rx = .wakeWatch idle := by
  unfold watchesWake
  split
  case h_1 idle hs hr => exact ⟨fun _ => ⟨hs, idle, hr⟩, fun _ => rfl⟩
  case h_2 hno => exact ⟨nofun, fun ⟨hs, idle, hr⟩ => (hno idle hs hr).elim⟩

theorem watchesWake_of_rx {s : State} (h : ∀ idle, s.link.rx ≠ .wakeWatch idle) : watchesWake s = false :=
  Bool.eq_false_iff.mpr fun hw => ((watchesWake_iff s).mp hw).2.elim h

theorem watchesWake_of_state {s : State} (h : s.sup.state ≠ .standby) : watchesWake s = false :=
  Bool.eq_false_iff.mpr fun hw => h ((watchesWake_iff s).mp hw).1

theorem watchesWake_rxIgnore (s : State) : watchesWake (s.setLink (rxIgnore s.link)) = watchesWake s := by
  rw [Bool.eq_iff_iff, watchesWake_iff, watchesWake_iff, setLink_link, setLink_sup]
  cases h : s.link.rx with
  | notReady why => cases why <;> simp [rxIgnore, h]
  | _ => simp [rxIgnore, h]

theorem lrxLevel_ignored {s : State} (hw : watchesWake s = false) (hi : ignoresLrx s.link.rx = true) (x : Bool) :
    lrxLevel s x = if x then s else s.setLink (rxIgnore s.link) := by
  cases x <;> simp [lrxLevel, hw, rxLevel_ignored hi]

/-- Outside a byte a high level is no start bit (R40). -/
theorem lrxLevel_high {s : State} (h : ∀ bytes bits, s.link.rx = .assembling bytes bits → bits = []) : lrxLevel s true = s := by
  have hlink : rxLevel s.prof.running.link true s.link = s.link := by
    cases hr : s.link.rx with
    | assembling bytes bits => simp [rxLevel, rxTake, hr, h bytes bits hr]
    | _ => simp [rxLevel, rxTake, hr]
  rw [lrxLevel, Bool.not_true, Bool.and_false, hlink]
  rfl

theorem lrx_high {s : State} (h : lrxLevel s true = s) {l : LrxLevels} (hl : false ∉ l) : l.foldl lrxLevel s = s := by
  induction l with
  | nil => rfl
  | cons x l ih =>
    cases x
    case false => exact absurd List.mem_cons_self hl
    case true => rw [List.foldl_cons, h, ih (mt (List.mem_cons_of_mem _) hl)]

/-- A receiver that only the first low level changes: `t` is what it leaves, and no later level counts (R41, R58). -/
theorem lrx_firstLow {s t : State} (hhigh : lrxLevel s true = s) (hlow : lrxLevel s false = t) (ht : ∀ x, lrxLevel t x = t)
    (l : LrxLevels) : l.foldl lrxLevel s = if false ∈ l then t else s := by
  induction l with
  | nil => rfl
  | cons x l ih =>
    rw [List.foldl_cons]
    cases x
    case false => rw [hlow, lrx_deaf ht, if_pos List.mem_cons_self]
    case true => simp [hhigh, ih]

theorem lrx_ignored {s : State} (hw : watchesWake s = false) (hi : ignoresLrx s.link.rx = true) (l : LrxLevels) :
    l.foldl lrxLevel s = if false ∈ l then s.setLink (rxIgnore s.link) else s := by
  refine lrx_firstLow (t := s.setLink (rxIgnore s.link)) (lrxLevel_ignored hw hi true) (lrxLevel_ignored hw hi false)
    (fun x => ?_) l
  rw [lrxLevel_ignored ((watchesWake_rxIgnore s).trans hw) ((ignoresLrx_rxIgnore s.link).trans hi)]
  cases x
  case true => rfl
  case false => exact congrArg s.setLink (rxIgnore_idem s.link)

/-- A receiver whose bytes are not counted at all (R41). -/
theorem lrx_uncounting {s : State} (h : s.link.rx = .notReady .afterFail ∨ s.link.rx = .notReady .uncounted) (l : LrxLevels) :
    l.foldl lrxLevel s = s := by
  have hw : watchesWake s = false := watchesWake_of_rx fun idle hr => by simp [hr] at h
  have hi : ignoresLrx s.link.rx = true := by rcases h with h | h <;> rw [h] <;> rfl
  rw [lrx_ignored hw hi, rxIgnore_uncounting h, setLink_self, ite_self]

/-! ### The start bit of a wake -/

theorem startBitWake_eq {s : State} (hs : s.sup.state = .standby) {idle : Bool} (hr : s.link.rx = .wakeWatch idle) :
    startBitWake s = (s.setLink (rxWake s.link)).setClk { s.clk with wakeReq := true } := by
  rw [startBitWake, if_pos ((watchesWake_iff s).mpr ⟨hs, idle, hr⟩), signalWake, if_pos ⟨hs, rfl⟩]
  rfl

/-- Levels at a receiver that watches for a wake in STANDBY: the first low one is the start bit (R58). -/
theorem lrx_wakes {s : State} (hs : s.sup.state = .standby) {idle : Bool} (hr : s.link.rx = .wakeWatch idle) (l : LrxLevels) :
    l.foldl lrxLevel s = if false ∈ l then startBitWake s else s := by
  have hw : watchesWake s = true := (watchesWake_iff s).mpr ⟨hs, idle, hr⟩
  have hdeaf (x : Bool) : lrxLevel (startBitWake s) x = startBitWake s := by
    rw [startBitWake_eq hs hr]
    exact lrx_uncounting (.inr rfl) [x]
  refine lrx_firstLow (lrxLevel_high fun bytes bits h => ?_) (by simp [lrxLevel, hw]) hdeaf l
  simp [hr] at h

/-! ### A byte, and the checks of a complete message -/

theorem rxByte_more {bytes : List Byte} (h : bytes.length < 3) (c : LinkCfg) (b : Byte) (l : Link) :
    rxByte c bytes b l = { l with rx := .assembling (bytes ++ [b]) [] } := by
  unfold rxByte
  split
  case h_1 => simp only [List.length_cons] at h; omega
  case h_2 => rfl

/-- The kind that a valid code of KIND names (R41). -/
theorem kindOf_valid {k : BitVec 2} (h : k ≠ 3) :
    kindOf k = some (if k = 0 then .event else if k = 1 then .clear else .beacon) := by
  revert k
  decide

theorem codeOk_kind {k : BitVec 2} (h : k ≠ 3) (code : Byte) :
    codeOk (if k = 0 then .event else if k = 1 then .clear else .beacon) code = false ↔ k ≠ 2 ∧ 15 < code.toNat := by
  by_cases h0 : k = 0
  · simp [h0, codeOk]
  · by_cases h1 : k = 1
    · simp [h1, codeOk]
    · have h2 : k = 2 := by
        revert k
        decide
      simp [h2, codeOk]

/-- The checks of R42 in order; only the first that fails counts. -/
theorem pemCheck_eq (c : LinkCfg) (b0 b1 b2 b3 : Byte) (l : Link) :
    pemCheck c b0 b1 b2 b3 l =
      if b3 ≠ pemCrc b0 b1 b2 then countCrc l
      else if pemKind b0 = 3 ∨ pemKind b0 ≠ 2 ∧ 15 < b1.toNat then countMalformed l
      else if watched c (nodeOf (pemNode b0)) = false then countForeign l
      else inboxPut
        { node := nodeOf (pemNode b0)
          kind := if pemKind b0 = 0 then .event else if pemKind b0 = 1 then .clear else .beacon
          seq := pemSeq b0, code := b1, detail := b2 } l := by
  unfold pemCheck
  by_cases hk : pemKind b0 = 3
  · have hnone : kindOf (pemKind b0) = none := by rw [hk]; rfl
    rw [hnone, if_pos (.inl hk : pemKind b0 = 3 ∨ _)]
  · simp only [kindOf_valid hk, codeOk_kind hk, hk, false_or]

/-! ### Levels and messages -/

theorem exec_levels (l : LrxLevels) (s : State) : exec (.peerEventMessage l [] [] []) s = .next (l.foldl lrxLevel s) := by
  show Host.Outcome.next ((l ++ [] ++ [] ++ []).foldl lrxLevel s) = _
  rw [List.append_nil, List.append_nil, List.append_nil]

/-- Settles O53: each receiver's levels by what its first low level does, a byte by `lrx_byteFrame`, a message by `pemCheck_eq`. -/
theorem peerMessageChecked : Obligations.PeerMessageChecked := by
  refine ⟨fun b0 b1 b2 b3 s hr => ?message, fun x y s => ?pieces, fun b0 b1 b2 b3 s => ?grouping, fun x s hx hbits => ?high,
    fun s hr => ?start, fun bytes b s hr => ⟨fun hlen => ?byte, fun later => ?framing⟩, fun x run s hr => ?afterComplete,
    fun x s hr => ?uncounting, fun x idle s hx => ⟨fun hr => ?off, fun hr hs => ?wakeWatch⟩, fun x idle s hr hs hx => ?wake⟩
  case message =>
    refine ⟨_, congrArg Host.Outcome.next (lrx_message hr b0 b1 b2 b3), only_setLink _ _, ?_⟩
    rw [setLink_link, pemReceive, pemCheck_eq]
    rfl
  case pieces => exact ⟨_, exec_levels x s, by rw [exec_levels, exec_levels, List.foldl_append]⟩
  case grouping => rw [exec_levels]; rfl
  case high => rw [exec_levels, lrx_high (lrxLevel_high hbits) hx]
  case start => rw [exec_levels, List.foldl_cons, List.foldl_nil, lrxLevel_receives (by rw [hr]; rfl), rxLevel, hr]; rfl
  case byte => rw [exec_levels, lrx_byteFrame hr, if_pos rfl, rxByte_more hlen]
  case framing =>
    show Host.Outcome.next ((byteFrame b false ++ later ++ [] ++ []).foldl lrxLevel s) = _
    rw [List.append_nil, List.append_nil, List.foldl_append, lrx_byteFrame hr, lrx_uncounting (.inl rfl)]
    rfl
  case afterComplete =>
    rw [exec_levels, lrx_ignored (watchesWake_of_rx (by simp [hr])) (by rw [hr]; rfl), rxIgnore_afterComplete hr]
  case uncounting => rw [exec_levels, lrx_uncounting hr]
  case off =>
    rw [exec_levels, lrx_ignored (watchesWake_of_rx (by simp [hr])) (by rw [hr]; rfl), if_pos hx, rxIgnore_off hr]
  case wakeWatch =>
    rw [exec_levels, lrx_ignored (watchesWake_of_state hs) (by rw [hr]; rfl), if_pos hx, rxIgnore_wakeWatch hr]
  case wake =>
    rw [exec_levels, lrx_wakes hs hr, if_pos hx]
    rfl

/-! ### The receiver's other events -/

/-- Rows that replace the link alone agree when they leave the same link. -/
theorem next_setLink_congr {s : State} {l l' : Link} (h : l = l') :
    (Host.Outcome.next (s.setLink l) : Host.Outcome State Fault Refusal) = .next (s.setLink l') :=
  congrArg (fun l => Host.Outcome.next (s.setLink l)) h

/-- A byte that fails, or a message cut short, at a receiver that ignores LRX (R41). -/
theorem exec_failure_ignored {i : Instr} (h : i = .framingError ∨ i = .truncated) {s : State}
    (hi : ignoresLrx s.link.rx = true) : exec i s = .next (s.setLink (rxIgnore s.link)) := by
  rcases h with rfl | rfl <;> exact next_setLink_congr (rxFail_ignored hi _)

theorem rxEarlyRun_afterComplete {run : Bool} {l : Link} (h : l.rx = .notReady (.afterComplete run)) :
    rxEarlyRun l = { countTruncated l with rx := .ready } := by simp [rxEarlyRun, h]

theorem rxEarlyRun_other {l : Link} (h : ∀ run, l.rx ≠ .notReady (.afterComplete run)) : rxEarlyRun l = l := by
  cases hr : l.rx with
  | notReady why =>
    cases why with
    | afterComplete run => exact absurd hr (h run)
    | _ => simp [rxEarlyRun, hr]
  | _ => simp [rxEarlyRun, hr]

/-- Idle after a message, counted once where an early run preceded it (R41). -/
theorem rxIdle_notReady {why : RxWhy} {l : Link} (h : l.rx = .notReady why) :
    rxIdle l = if why = .afterComplete true then { countTruncated l with rx := .ready } else { l with rx := .ready } := by
  cases why with
  | afterComplete run => cases run <;> simp [rxIdle, h]
  | _ => simp [rxIdle, h]

theorem rxIdle_assembling {bytes : List Byte} {bits : List Bool} {l : Link} (h : l.rx = .assembling bytes bits) :
    rxIdle l = { countTruncated l with rx := .ready } := by simp [rxIdle, h]

theorem rxIdle_ready {l : Link} (h : l.rx = .ready) : rxIdle l = l := by simp [rxIdle, h]

theorem rxIdle_off {idle : Bool} {l : Link} (h : l.rx = .off idle) : rxIdle l = { l with rx := .off true } := by
  simp [rxIdle, h]

theorem rxIdle_wakeWatch {idle : Bool} {l : Link} (h : l.rx = .wakeWatch idle) :
    rxIdle l = { l with rx := .wakeWatch true } := by simp [rxIdle, h]

/-- Settles O54: failures by `rxFail_counted` and `rxFail_ignored`, idle by what it does in each state of the receiver. -/
theorem receiverEventsCounted : Obligations.ReceiverEventsCounted := by
  refine ⟨fun s hr => ?fails, fun i s hi => ⟨fun run hr => ?afterComplete, fun hr => ?uncounting, fun idle => ⟨fun hr => ?off,
    fun hr => ?wakeWatch⟩⟩, fun run s hr => ⟨_, next_setLink_congr (rxEarlyRun_afterComplete hr), rfl⟩,
    fun s hr => next_setLink_congr (rxEarlyRun_other hr), fun s hr => next_setLink_congr (rxIdle_ready hr),
    fun idle s => ⟨fun hr => next_setLink_congr (rxIdle_off hr), fun hr => next_setLink_congr (rxIdle_wakeWatch hr)⟩,
    fun bytes bits s hr => ⟨_, next_setLink_congr (rxIdle_assembling hr), rfl⟩,
    fun why s hr => ⟨_, next_setLink_congr (rxIdle_notReady hr), rfl⟩⟩
  case fails =>
    have hi := (ignoresLrx_eq_false_iff _).mpr hr
    exact ⟨⟨_, next_setLink_congr (rxFail_counted hi _), rfl⟩, _, next_setLink_congr (rxFail_counted hi _), rfl⟩
  case afterComplete => rw [exec_failure_ignored hi (by rw [hr]; rfl), rxIgnore_afterComplete hr]
  case uncounting =>
    rw [exec_failure_ignored hi (by rcases hr with hr | hr <;> rw [hr] <;> rfl), rxIgnore_uncounting hr, setLink_self]
  case off => rw [exec_failure_ignored hi (by rw [hr]; rfl), rxIgnore_off hr]
  case wakeWatch => rw [exec_failure_ignored hi (by rw [hr]; rfl), rxIgnore_wakeWatch hr]

end Sys2Proof.Machine
end

section
/-!
PROOF. The transmitter, the Node Table and the code sets: the start bit of a wake, messages that enter and leave flight, silence, the
beacon timer, the intake of a message, and PURGE_NODE.
-/

namespace Sys2Proof.Machine

set_option Elab.async false

/-! ### The transmitter -/

theorem lineFree_iff (x : SupState) (rx : RxState) :
    lineFree x rx = true ↔ rx = .ready ∨ x = .standby ∧ (rx = .off true ∨ rx = .wakeWatch true) := by
  cases rx <;> simp [lineFree, and_comm]

theorem txBegin_sends {x p : SupState} {l : Link} (hf : l.flight = none) (hp : l.pendingTx = some p)
    (hfree : lineFree x l.rx = true) (c : LinkCfg) :
    txBegin c x l = { l with flight := some (beaconFlight c.ownNode l.txSeq p), pendingTx := none, txSeq := l.txSeq + 1 } := by
  simp only [txBegin, hf, hp, hfree, if_true]

theorem txBegin_waits {x : SupState} {l : Link} (h : l.flight ≠ none ∨ l.pendingTx = none ∨ lineFree x l.rx = false)
    (c : LinkCfg) : txBegin c x l = l := by
  unfold txBegin
  split
  case h_1 p hf hp =>
    have hfree : lineFree x l.rx = false := (h.resolve_left (not_not_intro hf)).resolve_left (by simp [hp])
    rw [hfree]
    rfl
  case h_2 => rfl

/-- Settles O55: the start bit by `startBitWake_eq`, and the transmitter by whether the line is free. -/
theorem startBitAndTransmitter : Obligations.StartBitAndTransmitter := by
  refine ⟨fun idle s hs hr => ⟨_, congrArg Host.Outcome.next (startBitWake_eq hs hr), rfl⟩,
    fun x s hf hp hfree => ⟨_, next_setLink_congr (txBegin_sends hf hp ((lineFree_iff _ _).mpr hfree) _), rfl⟩,
    fun s h => ?waits, fun s => ⟨_, rfl, rfl⟩⟩
  refine next_setLink_congr (txBegin_waits ?_ _)
  rcases h with hf | hp | hline
  · exact .inl hf
  · exact .inr (.inl hp)
  · refine .inr (.inr (Bool.eq_false_iff.mpr fun hfree => ?_))
    rcases (lineFree_iff _ _).mp hfree with hr | ⟨hs, hr | hr⟩ <;> simp [*] at hline

/-! ### Silence and the beacon timer -/

/-- The silence step in which SILENCE reaches LINK_TIMEOUT (R47). -/
theorem silenceStep_expires {c : LinkCfg} {n : Fin 8} {e : NodeEntry} (hw : watched c n = true) (hs : e.nstate ≠ .silent)
    (ht : tenMsTicks c.timeout ≤ e.silence + 1) :
    silenceStep c none n e = { e with nstate := .silent, silence := e.silence + 1 } := by
  simp [silenceStep, hw, hs, ht]

theorem silentNode_eq {n : Fin 8} {s : State} (ho : linkOperates s.prof.running.link s.sup.state = true)
    (hw : watched s.prof.running.link n = true) (hs : (vget s.link.nodes n).nstate ≠ .silent)
    (ht : tenMsTicks s.prof.running.link.timeout ≤ (vget s.link.nodes n).silence + 1) :
    silentNode n s = s.setLink { s.link with
      nodes := vset s.link.nodes n
        { (vget s.link.nodes n) with nstate := .silent, silence := (vget s.link.nodes n).silence + 1 } } := by
  unfold silentNode
  simp only []
  rw [silenceStep_expires hw hs ht, if_pos ⟨ho, hs, rfl⟩]

theorem beaconTimer_due {s : State} (ho : linkOperates s.prof.running.link s.sup.state = true)
    (hd : tenMsTicks s.prof.running.link.beaconPeriod ≤ s.link.beacon + 1) :
    beaconTimer s = s.setLink (handRequest s.sup.state s.link) := if_pos ⟨ho, decide_eq_true hd⟩

/-- Settles O36: the node's own step by `silentNode_eq`, and the beacon's request by `beaconTimer_due`. -/
theorem silenceAndBeaconTimers : Obligations.SilenceAndBeaconTimers := by
  refine ⟨fun n s hr ho hw hs ht => ?silent, fun s hr ho hd => ?beacon⟩
  case silent =>
    refine ⟨_, congrArg Host.Outcome.next ((inBatch_running hr).trans (silentNode_eq ho hw hs ht)), only_setLink _ _, rfl, ?_, ?_⟩
    · exact vget_vset_same _ _ _
    · exact fun m hm => vget_vset_ne _ _ _ _ hm
  case beacon =>
    exact ⟨_, congrArg Host.Outcome.next ((inBatch_running hr).trans (beaconTimer_due ho hd)), only_setLink _ _, rfl⟩

/-! ### Code sets -/

/-- The record of a set that a node leaves is emptied when that node was the set's last member (R48, R50). -/
theorem recordLeft_setWithout (x : BitVec 8) (n : Fin 8) (r : Option LastEvent) :
    recordLeft x (setWithout x n) r = if x.getLsbD n.val = true ∧ setWithout x n = 0 then none else r := by
  have hempty : setWithout x n = 0 ∧ x ≠ 0 ↔ x.getLsbD n.val = true ∧ setWithout x n = 0 := by
    cases hin : inSet x n
    case false =>
      rw [setWithout_of_not_inSet hin]
      exact ⟨fun h => absurd h.1 h.2, fun h => absurd (hin.symm.trans h.1) Bool.false_ne_true⟩
    case true => exact ⟨fun h => ⟨hin, h.1⟩, fun h => ⟨h.2, ne_zero_of_inSet hin⟩⟩
  exact if_congr hempty rfl rfl

theorem leaveAll_sets (n : Fin 8) (k : Fin 16) (l : Link) : vget (leaveAll n l).sets k = setWithout (vget l.sets k) n := by
  apply BitVec.eq_of_getLsbD_eq
  intro i hi
  exact ((setsLeft_leaveAll n l).bits k ⟨i, hi⟩).trans (getLsbD_setWithout _ n ⟨i, hi⟩).symm

theorem leaveAll_last (n : Fin 8) (k : Fin 16) (l : Link) :
    vget (leaveAll n l).last k =
      if (vget l.sets k).getLsbD n.val = true ∧ setWithout (vget l.sets k) n = 0 then none else vget l.last k := by
  rw [(setsLeft_leaveAll n l).last, leaveAll_sets, recordLeft_setWithout]

/-! ### Intake -/

theorem judgeSeq_eq (last : Option (BitVec 3)) (q : BitVec 3) :
    judgeSeq last q =
      if last = some q then .duplicate
      else if last ≠ none ∧ last ≠ some q ∧ last ≠ some (q - 1) then .gap else .fresh := by
  cases last with
  | none => rfl
  | some p =>
    revert p q
    decide

/-- The link when a message of a watched node has been judged and its code's set is still to be changed (R43, R46). -/
def heard (m : LinkMsg) (l : Link) : Link :=
  let last := (vget l.nodes m.node).lastSeq
  { l with
    nodes := vset l.nodes m.node { lastSeq := some m.seq, nstate := .alive, silence := 0 }
    leaky := satDec l.leaky
    dup := if last = some m.seq then satInc l.dup else l.dup
    gap := if last ≠ none ∧ last ≠ some m.seq ∧ last ≠ some (m.seq - 1) then satInc l.gap else l.gap }

theorem takeMsg_eq (m : LinkMsg) (l : Link) :
    takeMsg m l = if (vget l.nodes m.node).lastSeq = some m.seq then heard m l else applyMsg m (heard m l) := by
  unfold takeMsg heard
  simp only [judgeSeq_eq]
  generalize (vget l.nodes m.node).lastSeq = last
  by_cases hd : last = some m.seq
  · have hg : ¬(last ≠ none ∧ last ≠ some m.seq ∧ last ≠ some (m.seq - 1)) := fun h => h.2.1 hd
    simp only [if_pos hd, if_neg hg]
  · by_cases hg : last ≠ none ∧ last ≠ some m.seq ∧ last ≠ some (m.seq - 1)
    · simp only [if_neg hd, if_pos hg]
    · simp only [if_neg hd, if_neg hg]

theorem applyMsg_beacon {m : LinkMsg} (h : m.kind = .beacon) (l : Link) : applyMsg m l = l := by simp [applyMsg, h]

theorem applyMsg_event {m : LinkMsg} (h : m.kind = .event) (l : Link) :
    applyMsg m l = joinSet m.node (codeIndex m.code) m.detail l := by simp [applyMsg, h]

theorem applyMsg_clear {m : LinkMsg} (h : m.kind = .clear) (l : Link) :
    applyMsg m l = leaveSet m.node (codeIndex m.code) l := by simp [applyMsg, h]

/-- A message acts on nothing but the set of its code and that set's record (R48). -/
structure ActsOnSet (m : LinkMsg) (l l' : Link) : Prop where
  rest : l' = { l with sets := l'.sets, last := l'.last }
  others : ∀ j, j ≠ codeIndex m.code → vget l'.sets j = vget l.sets j ∧ vget l'.last j = vget l.last j

theorem actsOnSet_applyMsg (m : LinkMsg) (l : Link) : ActsOnSet m l (applyMsg m l) := by
  cases hk : m.kind
  case event =>
    rw [applyMsg_event hk]
    exact ⟨rfl, fun j hj => ⟨vget_vset_ne _ _ _ _ hj, vget_vset_ne _ _ _ _ hj⟩⟩
  case clear =>
    rw [applyMsg_clear hk]
    refine ⟨leaveSet_rest _ _ _, fun j hj => ?_⟩
    rw [leaveSet_last, leaveSet_sets, if_neg hj, recordLeft_same]
    exact ⟨rfl, rfl⟩
  case beacon =>
    rw [applyMsg_beacon hk]
    exact ⟨rfl, fun j _ => ⟨rfl, rfl⟩⟩

theorem actsOnSet_takeMsg (m : LinkMsg) (l : Link) : ActsOnSet m (heard m l) (takeMsg m l) := by
  rw [takeMsg_eq]
  split
  · exact ⟨rfl, fun j _ => ⟨rfl, rfl⟩⟩
  · exact actsOnSet_applyMsg m _

theorem ActsOnSet.nodes {m : LinkMsg} {l l' : Link} (h : ActsOnSet m l l') : l'.nodes = l.nodes := by rw [h.rest]

theorem ActsOnSet.dup {m : LinkMsg} {l l' : Link} (h : ActsOnSet m l l') : l'.dup = l.dup := by rw [h.rest]

theorem ActsOnSet.gap {m : LinkMsg} {l l' : Link} (h : ActsOnSet m l l') : l'.gap = l.gap := by rw [h.rest]

theorem takeMsg_kept {m : LinkMsg} (l : Link) (h : (vget l.nodes m.node).lastSeq = some m.seq ∨ m.kind = .beacon) :
    (takeMsg m l).sets = l.sets ∧ (takeMsg m l).last = l.last := by
  rw [takeMsg_eq]
  split
  case isTrue => exact ⟨rfl, rfl⟩
  case isFalse hd =>
    rw [applyMsg_beacon (h.resolve_left hd)]
    exact ⟨rfl, rfl⟩

theorem takeMsg_event {m : LinkMsg} (l : Link) (hd : (vget l.nodes m.node).lastSeq ≠ some m.seq) (hk : m.kind = .event) :
    vget (takeMsg m l).sets (codeIndex m.code) = setWith (vget l.sets (codeIndex m.code)) m.node ∧
      vget (takeMsg m l).last (codeIndex m.code) = some { node := m.node, detail := m.detail } := by
  rw [takeMsg_eq, if_neg hd, applyMsg_event hk]
  exact ⟨vget_vset_same _ _ _, vget_vset_same _ _ _⟩

theorem takeMsg_clear {m : LinkMsg} (l : Link) (hd : (vget l.nodes m.node).lastSeq ≠ some m.seq) (hk : m.kind = .clear) :
    vget (takeMsg m l).sets (codeIndex m.code) = setWithout (vget l.sets (codeIndex m.code)) m.node ∧
      vget (takeMsg m l).last (codeIndex m.code) =
        if (vget l.sets (codeIndex m.code)).getLsbD m.node.val = true ∧ vget (takeMsg m l).sets (codeIndex m.code) = 0 then none
        else vget l.last (codeIndex m.code) := by
  have hset : vget (takeMsg m l).sets (codeIndex m.code) = setWithout (vget l.sets (codeIndex m.code)) m.node := by
    rw [takeMsg_eq, if_neg hd, applyMsg_clear hk, leaveSet_sets, if_pos rfl]
    rfl
  refine ⟨hset, ?_⟩
  rw [hset, ← recordLeft_setWithout, takeMsg_eq, if_neg hd, applyMsg_clear hk, leaveSet_last, leaveSet_sets, if_pos rfl]
  rfl

theorem intakeOne_eq {s : State} (ho : linkOperates s.prof.running.link s.sup.state = true) {m : LinkMsg} {rest : List LinkMsg}
    (hi : s.link.inbox = m :: rest) :
    intakeOne s = s.setLink (if watched s.prof.running.link m.node = true then takeMsg m { s.link with inbox := rest }
      else { s.link with inbox := rest }) := by
  rw [intakeOne, if_pos ho, linkIntake, hi]
  cases hw : watched s.prof.running.link m.node <;> simp [hw]

/-- Settles O37: the message is judged (`heard`) and then acts on the set of its code alone, by its KIND. -/
theorem intakeAppliesOldestMessage : Obligations.IntakeAppliesOldestMessage := by
  intro m rest s hr ho hi _
  refine ⟨_, congrArg Host.Outcome.next ((inBatch_running hr).trans (intakeOne_eq ho hi)), only_setLink _ _, ?_⟩
  rw [setLink_link]
  cases hw : watched s.prof.running.link m.node
  case false => rfl
  case true =>
    have hact := actsOnSet_takeMsg m { s.link with inbox := rest }
    simp only [if_true, Bool.true_eq_false, if_false]
    refine ⟨?_, ?_, fun n hn => ?_, hact.dup, hact.gap, hact.others, ?_⟩
    · rw [hact.nodes, hact.dup, hact.gap]
      exact hact.rest
    · rw [hact.nodes]
      exact vget_vset_same _ _ _
    · rw [hact.nodes]
      exact vget_vset_ne _ _ _ _ hn
    · split
      case isTrue hkept =>
        obtain ⟨hsets, hlast⟩ := takeMsg_kept { s.link with inbox := rest } hkept
        exact ⟨congrArg (vget · _) hsets, congrArg (vget · _) hlast⟩
      case isFalse hacts =>
        obtain ⟨hnew, hbeacon⟩ := not_or.mp hacts
        cases hk : m.kind
        case event => exact (if_pos rfl).mpr (takeMsg_event { s.link with inbox := rest } hnew hk)
        case clear => exact (if_neg nofun).mpr (takeMsg_clear { s.link with inbox := rest } hnew hk)
        case beacon => exact absurd hk hbeacon

/-! ### PURGE_NODE -/

theorem doPurgeNode_silent {n : Fin 8} {s : State} (h : (vget s.link.nodes n).nstate = .silent) :
    doPurgeNode (BitVec.ofNat 24 n.val) s = okWith ((0 : Byte) ++ purgeMask n s.link) (s.setLink (leaveAll n s.link)) := by
  unfold doPurgeNode
  rw [argNode_ofNat]
  exact if_pos h

theorem doPurgeNode_refused {n : Fin 8} {s : State} (h : (vget s.link.nodes n).nstate ≠ .silent) :
    doPurgeNode (BitVec.ofNat 24 n.val) s = refuse .nodeNotSilent s := by
  unfold doPurgeNode
  rw [argNode_ofNat]
  exact if_neg h

/-- Settles O22: the refusal by `command_refused`, and the purge by what `leaveAll` leaves of each set and record. -/
theorem purgeRemovesSilentNode : Obligations.PurgeRemovesSilentNode := by
  refine fun h n s he => ⟨fun hs => ?refused, fun hs => ?purged⟩
  case refused =>
    obtain ⟨t, ht, hc, -⟩ := command_refused he nofun (doPurgeNode_refused hs)
    exact ⟨t, congrArg Host.Outcome.next ht, hc⟩
  case purged =>
    obtain ⟨t, ht, d⟩ := command_outcome [.link, .src] _ he nofun (doPurgeNode_silent hs) (only_setLink _ _).mono (by decide)
      (.inl (by decide))
    have hlink : t.link = leaveAll n s.link := d.rest.same .link
    refine ⟨t, congrArg Host.Outcome.next ht, ⟨_, d.done, fun k => getLsbD_bitsOf _ k⟩, d.prof.trans (cancelUnlock_prof_congr rfl),
      d.srcf, ?_, fun k => ?_⟩
    · rw [hlink]
      exact leaveAll_rest n s.link
    · rw [hlink, leaveAll_last, leaveAll_sets]
      exact ⟨rfl, rfl⟩

end Sys2Proof.Machine
end

section
/-!
PROOF. The sources: the table of Stage B, arbitration, and the commands that clear, inject, raise and lower one source.
-/

namespace Sys2Proof.Machine

set_option Elab.async false

/-! ### The table of Stage B -/

section
variable {d : Desc} {r : SrcRec}

theorem srcStep_raises (hq : r.state = .quiet) (hc : effCond r = true) (he : d.enable = true) :
    srcStep d r = (raiseRec d r, .raise) := by
  simp only [srcStep, hq, hc, he, if_true]

theorem srcStep_staysQuiet (hq : r.state = .quiet) (h : effCond r = false ∨ d.enable = false) :
    srcStep d r = (r, .none) := by
  cases hc : effCond r
  case false => simp only [srcStep, hq, hc]
  case true =>
    have he : d.enable = false := h.resolve_left (by simp [hc])
    simp only [srcStep, hq, hc, he, Bool.false_eq_true, if_false]

theorem srcStep_present (hl : r.state ≠ .quiet) (hc : effCond r = true) :
    srcStep d r = ({ r with state := .active }, .none) := by
  cases hs : r.state
  case quiet => exact absurd hs hl
  case active =>
    simp only [srcStep, hs, hc]
    rw [← hs]
  case residual => simp only [srcStep, hs, hc]

theorem srcStep_clears (hl : r.state ≠ .quiet) (hc : effCond r = false) (hr : d.recovery = .auto) :
    srcStep d r = ({ r with state := .quiet }, .clear) := by
  cases hs : r.state
  case quiet => exact absurd hs hl
  case active => simp only [srcStep, hs, hc, hr]
  case residual => simp only [srcStep, hs, hc, hr]

theorem srcStep_waitsForHost (hl : r.state ≠ .quiet) (hc : effCond r = false) (hr : d.recovery = .host) :
    srcStep d r = ({ r with state := .residual }, .none) := by
  cases hs : r.state
  case quiet => exact absurd hs hl
  case active => simp only [srcStep, hs, hc, hr]
  case residual =>
    simp only [srcStep, hs, hc, hr]
    rw [← hs]

end

/-- Settles O41: one equation of `srcStep` for each row of R61; the record of a raise is `raiseRec`. -/
theorem sourceRecordTable : Obligations.SourceRecordTable := by
  refine fun d r => ⟨fun hq hc he => ?raised, srcStep_staysQuiet, srcStep_present, srcStep_clears, srcStep_waitsForHost⟩
  rw [srcStep_raises hq hc he]
  exact ⟨rfl, rfl, rfl, rfl, rfl, rfl, rfl, rfl, rfl⟩

/-! ### Arbitration -/

/-- Settles O42: the order is that of `arbitrate`, which permutes and sorts. -/
theorem arbitrationOrder : Obligations.ArbitrationOrder :=
  fun occs _ => ⟨arbitrate occs, rfl, arbitrate_perm occs, arbitrate_pairwise occs⟩

/-! ### INJECT, RAISE_SW and LOWER_SW -/

theorem unitCond_setSrc (x : Vector SrcRec 56) (s : State) (i : SrcId) : unitCond (s.setSrc x) i = unitCond s i :=
  unitCond_congr (only_setSrc _ _).mono rfl i

/-- A command whose rule replaces the records alone leaves them as its rule does: no unit's condition follows from them. -/
theorem setSrc_outcome {c : Cmd} {h : FrameHead} {arg : BitVec 24} {s : State} {x : Vector SrcRec 56}
    (he : executes c h arg s = true) (hc : c ≠ .openSession)
    (ho : runCommand c arg (accepted h s) = okOut ((accepted h s).setSrc x)) :
    ∃ t, cmdFrame c h arg s = t ∧ commandDone [.src] h .ok 0 s t ∧ unlockCancelled s t ∧ t.src = x := by
  obtain ⟨t, ht, d⟩ := command_outcome [.src] _ he hc ho (only_setSrc _ _).mono (by decide) (.inl (by decide))
  refine ⟨t, ht, d.done, d.prof.trans (cancelUnlock_prof_congr rfl), d.same fun i => ?_⟩
  rw [unitCond_setSrc, unitCond_accepted]

theorem doInject_enabled {n : SrcId} {s : State} (h : (vget s.prof.running.desc n).enable = true) :
    doInject (BitVec.ofNat 24 n.val) s = okOut (s.setSrc (vset s.src n { (vget s.src n) with inj := true })) := by
  unfold doInject
  rw [argSource_ofNat]
  exact if_pos h

theorem doInject_disabled {n : SrcId} {s : State} (h : ¬ (vget s.prof.running.desc n).enable = true) :
    doInject (BitVec.ofNat 24 n.val) s = refuse .disabled s := by
  unfold doInject
  rw [argSource_ofNat]
  exact if_neg h

/-- A command whose rule replaces the software bits alone: COND of their sources follows (R59, R76). -/
theorem setSw_outcome {c : Cmd} {h : FrameHead} {arg : BitVec 24} {s : State} {x : BitVec 4}
    (he : executes c h arg s = true) (hc : c ≠ .openSession)
    (ho : runCommand c arg (accepted h s) = okOut ((accepted h s).setSw x)) :
    ∃ t, cmdFrame c h arg s = t ∧ commandDone [.sw, .src] h .ok 0 s t ∧ unlockCancelled s t ∧ srcFollows s.src s t ∧
      t.sw = x := by
  obtain ⟨t, ht, d⟩ := command_outcome [.sw, .src] _ he hc ho (only_setSw _ _).mono (by decide) (.inl (by decide))
  exact ⟨t, ht, d.done, d.prof.trans (cancelUnlock_prof_congr rfl), d.srcf, d.rest.same .sw⟩

theorem getLsbD_or_twoPow (x : BitVec 4) (n m : Fin 4) :
    (x ||| BitVec.twoPow 4 n.val).getLsbD m.val = (x.getLsbD m.val || decide (m = n)) := by
  simp [Fin.ext_iff, eq_comm]

theorem getLsbD_and_not_twoPow (x : BitVec 4) (n m : Fin 4) :
    (x &&& ~~~BitVec.twoPow 4 n.val).getLsbD m.val = (x.getLsbD m.val && !decide (m = n)) := by
  simp [Fin.ext_iff, eq_comm]

theorem doRaiseSw_eq (n : Fin 4) (s : State) :
    doRaiseSw (BitVec.ofNat 24 n.val) s = okOut (s.setSw (s.sw ||| BitVec.twoPow 4 n.val)) := by
  rw [doRaiseSw, swBit_ofNat]

theorem doLowerSw_eq (n : Fin 4) (s : State) :
    doLowerSw (BitVec.ofNat 24 n.val) s = okOut (s.setSw (s.sw &&& ~~~BitVec.twoPow 4 n.val)) := by
  rw [doLowerSw, swBit_ofNat]

/-- Settles O21: INJECT by `setSrc_outcome` or its refusal, RAISE_SW and LOWER_SW by `setSw_outcome` and the bits of the word. -/
theorem injectAndSoftwareSources : Obligations.InjectAndSoftwareSources := by
  refine ⟨fun h n s he => ?inject, fun h n s he => ?raise, fun h n s he => ?lower⟩
  case inject =>
    by_cases hen : (vget s.prof.running.desc n).enable = true
    · obtain ⟨t, ht, hdone⟩ := setSrc_outcome he nofun (doInject_enabled (s := accepted h s) hen)
      exact ⟨t, congrArg Host.Outcome.next ht, (if_pos hen).mpr hdone⟩
    · obtain ⟨t, ht, href, -⟩ := command_refused he nofun (doInject_disabled (s := accepted h s) hen)
      exact ⟨t, congrArg Host.Outcome.next ht, (if_neg hen).mpr href⟩
  case raise =>
    obtain ⟨t, ht, hdone, hunlock, hsrc, hsw⟩ := setSw_outcome he nofun (doRaiseSw_eq n (accepted h s))
    refine ⟨t, congrArg Host.Outcome.next ht, hdone, hunlock, hsrc, ?_, fun m hm => ?_⟩
    · rw [hsw, getLsbD_or_twoPow, decide_eq_true rfl, Bool.or_true]
    · rw [hsw, getLsbD_or_twoPow, decide_eq_false hm, Bool.or_false]
      rfl
  case lower =>
    obtain ⟨t, ht, hdone, hunlock, hsrc, hsw⟩ := setSw_outcome he nofun (doLowerSw_eq n (accepted h s))
    refine ⟨t, congrArg Host.Outcome.next ht, hdone, hunlock, hsrc, ?_, fun m hm => ?_⟩
    · rw [hsw, getLsbD_and_not_twoPow, decide_eq_true rfl, Bool.not_true, Bool.and_false]
    · rw [hsw, getLsbD_and_not_twoPow, decide_eq_false hm, Bool.not_false, Bool.and_true]
      rfl

/-! ### The Alarm List loses entries -/

theorem dropAlarms_alarms (g : Alarm → Bool) (s : State) :
    (dropAlarms g s).sup.alarms = s.sup.alarms.filter (fun x => !g x) := by
  unfold dropAlarms
  simp only []
  split
  · simp [endEpisode]
  · rfl

/-- What the loss of entries leaves of the Supervisor, the level and the journal, by whether it ends ALERT (R86). -/
theorem dropAlarms_supervisor (g : Alarm → Bool) (s : State) :
    if s.sup.state = .alert ∧ s.sup.alarms ≠ [] ∧ (dropAlarms g s).sup.alarms = [] then
      (dropAlarms g s).sup = { s.sup with alarms := [], state := .normal, first := none } ∧
        (dropAlarms g s).ack = { s.ack with level := 0 } ∧
        (dropAlarms g s).jrn = (writeRec (.state .alert .normal) s).jrn
    else
      (dropAlarms g s).sup = { s.sup with alarms := (dropAlarms g s).sup.alarms } ∧ (dropAlarms g s).ack = s.ack ∧
        (dropAlarms g s).jrn = s.jrn := by
  rw [dropAlarms_alarms]
  split
  case isTrue hends =>
    obtain ⟨halert, -, hnone⟩ := id hends
    rw [dropAlarms_emptied hends, hnone]
    refine ⟨by simp [endEpisode], by simp [endEpisode], ?_⟩
    simp only [endEpisode, setAck_jrn, setSup_jrn, changeState_jrn, setSup_sup, halert]
    exact writeRec_jrn_congr _ rfl rfl rfl rfl
  case isFalse hstays =>
    rw [dropAlarms_kept hstays]
    exact ⟨rfl, rfl, rfl⟩

/-- The end of ALERT cancels an unlock step, as the command around it does (R156). -/
theorem cancelUnlock_dropAlarms (g : Alarm → Bool) (s : State) :
    (cancelUnlock (dropAlarms g s)).prof = (cancelUnlock s).prof := by
  by_cases hends : s.sup.state = .alert ∧ s.sup.alarms ≠ [] ∧ s.sup.alarms.filter (fun x => !g x) = []
  · rw [dropAlarms_emptied hends]
    refine Eq.trans (cancelUnlock_prof_congr (s := cancelUnlock s) ?_) (cancelUnlock_idem s)
    simp only [endEpisode, setAck_prof, setSup_prof, changeState_prof]
    exact cancelUnlock_prof_congr rfl
  · rw [dropAlarms_kept hends]
    exact cancelUnlock_prof_congr rfl

/-! ### A source returns to QUIET -/

theorem clearEffects_src (n : SrcId) (s : State) : (clearEffects n s).src = s.src := (only_clearEffects n s).same .src

theorem clearEffects_alarms (n : SrcId) (s : State) :
    (clearEffects n s).sup.alarms = s.sup.alarms.filter (fun a => !(a.src == n)) := dropAlarms_alarms _ _

/-- The CLEAR record, and the end of ALERT with its STATE record where the source's entry was the last (R61, R86). -/
theorem clearEffects_supervisor (n : SrcId) (s : State) :
    if s.sup.state = .alert ∧ s.sup.alarms ≠ [] ∧ (clearEffects n s).sup.alarms = [] then
      (clearEffects n s).sup = { s.sup with alarms := [], state := .normal, first := none } ∧
        (clearEffects n s).ack = { s.ack with level := 0 } ∧ journaled [.clear n, .state .alert .normal] s (clearEffects n s)
    else
      (clearEffects n s).sup = { s.sup with alarms := (clearEffects n s).sup.alarms } ∧ (clearEffects n s).ack = s.ack ∧
        journaled [.clear n] s (clearEffects n s) :=
  dropAlarms_supervisor _ (writeRec (.clear n) s)

theorem cancelUnlock_clearEffects (n : SrcId) (s : State) : (cancelUnlock (clearEffects n s)).prof = (cancelUnlock s).prof :=
  (cancelUnlock_dropAlarms _ _).trans (cancelUnlock_prof_congr rfl)

/-! ### CLEAR_SOURCE -/

/-- The records when a source has been cleared by the host (R74). -/
def recordsCleared (n : SrcId) (s : State) : Vector SrcRec 56 :=
  vset s.src n { (vget s.src n) with inj := false, state := .quiet }

theorem recordsCleared_quiet {n : SrcId} {s : State} (h : (vget s.src n).state = .quiet) :
    recordsCleared n s = vset s.src n { (vget s.src n) with inj := false } := by
  rw [recordsCleared, ← h]

theorem doClearSource_quiet {n : SrcId} {s : State} (h : (vget s.src n).state = .quiet) :
    doClearSource (BitVec.ofNat 24 n.val) s = okOut (s.setSrc (recordsCleared n s)) := by
  unfold doClearSource
  rw [argSource_ofNat]
  simp only [h]
  rfl

theorem doClearSource_latched {n : SrcId} {s : State} (hl : (vget s.src n).state ≠ .quiet) :
    doClearSource (BitVec.ofNat 24 n.val) s =
      if (vget s.src n).cond then refuse .conditionPresent s
      else okWith (if (vget s.src n).state = .active then 1 else 2) (clearEffects n (s.setSrc (recordsCleared n s))) := by
  unfold doClearSource
  rw [argSource_ofNat]
  cases hs : (vget s.src n).state
  case quiet => exact absurd hs hl
  case active =>
    simp only [hs]
    rfl
  case residual =>
    simp only [hs]
    rfl

/-- Settles O20: the quiet row by `setSrc_outcome`, the refusal by `command_refused`, and the return to QUIET by what the loss of
the source's entry leaves of the Alarm List, the supervisor state and the journal. -/
theorem clearSourceByLatch : Obligations.ClearSourceByLatch := by
  refine fun h n s he => ⟨fun hq => ?quiet, fun hl hc => ?refused, fun hl hc => ?cleared⟩
  case quiet =>
    obtain ⟨t, ht, hdone, hunlock, hsrc⟩ := setSrc_outcome he nofun (doClearSource_quiet (s := accepted h s) hq)
    exact ⟨t, congrArg Host.Outcome.next ht, hdone, hunlock, hsrc.trans (recordsCleared_quiet (s := accepted h s) hq)⟩
  case refused =>
    obtain ⟨t, ht, href, -⟩ := command_refused he nofun ((doClearSource_latched (s := accepted h s) hl).trans (if_pos hc))
    exact ⟨t, congrArg Host.Outcome.next ht, href⟩
  case cleared =>
    obtain ⟨t, ht, d⟩ := command_outcome [.src, .sup, .jrn, .ack] _ he nofun
      ((doClearSource_latched (s := accepted h s) hl).trans (if_neg (Bool.eq_false_iff.mp hc)))
      (.trans (only_setSrc _ _).mono (only_clearEffects _ _).mono) (by decide) (.inl (by decide))
    have hsup : t.sup = (clearEffects n _).sup := d.rest.same .sup
    have hack : t.ack = (clearEffects n _).ack := d.rest.same .ack
    have hjrn : t.jrn = (clearEffects n _).jrn := d.rest.same .jrn
    have hsrc := d.srcf
    rw [clearEffects_src] at hsrc
    have hleft := clearEffects_supervisor n ((accepted h s).setSrc (recordsCleared n (accepted h s)))
    unfold journaled at hleft
    rw [← hsup, ← hack, ← hjrn] at hleft
    refine ⟨t, congrArg Host.Outcome.next ht, d.done, ?_, hsrc, ?_, hleft⟩
    · exact d.prof.trans ((cancelUnlock_clearEffects _ _).trans (cancelUnlock_prof_congr rfl))
    · rw [hsup]
      exact clearEffects_alarms _ _

end Sys2Proof.Machine
end

section
/-!
PROOF. Release from SAFE, by command and automatic, and the timers that run out in SAFE.
-/

namespace Sys2Proof.Machine

set_option Elab.async false

/-! ### What blocks a release -/

theorem isLatched_iff (r : SrcRec) : isLatched r = true ↔ r.state ≠ .quiet := by
  unfold isLatched
  cases r.state <;> simp

/-- A source is latched as an ALARM or a CRITICAL (R66, R96). -/
theorem severeLatched_iff (s : State) :
    severeLatched s = true ↔
      ∃ i, (vget s.src i).state ≠ .quiet ∧ ((vget s.src i).eff = some .alarm ∨ (vget s.src i).eff = some .critical) := by
  have hrec (r : SrcRec) : (isLatched r && effSevere r) = true ↔
      r.state ≠ .quiet ∧ (r.eff = some .alarm ∨ r.eff = some .critical) := by
    rw [Bool.and_eq_true, isLatched_iff]
    simp [effSevere]
  simp only [severeLatched, List.any_eq_true, mem_toList_iff_vget, hrec]
  exact ⟨fun ⟨_, ⟨i, hi⟩, hr⟩ => ⟨i, hi ▸ hr⟩, fun ⟨i, hr⟩ => ⟨_, ⟨i, rfl⟩, hr⟩⟩

theorem hostResetIdle_iff (s : State) : hostResetIdle s = true ↔ s.sup.hostReset = .idle := by
  unfold hostResetIdle
  cases s.sup.hostReset <;> simp

theorem actionPending_iff (s : State) :
    actionPending s = true ↔ s.sup.hostReset ≠ .idle ∨ ∃ d, s.sup.powerCut = .delaying d := by
  rw [actionPending, Bool.or_eq_true, Bool.not_eq_true', ← Bool.not_eq_true, hostResetIdle_iff]
  cases s.sup.powerCut <;> simp

/-- The five reasons in the order of R96. -/
theorem releaseBlock_eq (s : State) :
    releaseBlock s =
      if s.ack.req ≠ none then some .ackPending
      else if s.sup.dwell ≠ none then some .dwellRunning
      else if s.sup.hostReset ≠ .idle ∨ (∃ d, s.sup.powerCut = .delaying d) then some .actionPending
      else if s.out.epMin ≠ none then some .epMinRunning
      else if ∃ i, (vget s.src i).state ≠ .quiet ∧
          ((vget s.src i).eff = some .alarm ∨ (vget s.src i).eff = some .critical) then some .sourcesLatched
      else none := by
  simp only [releaseBlock, Option.isSome_iff_ne_none, actionPending_iff, severeLatched_iff]

/-! ### The release -/

@[simp] theorem release_sup (s : State) :
    (release s).sup = { s.sup with
      state := .normal, active := emptyPlan, dwell := none, hostReset := .idle, powerCut := .idle, cause := none,
      first := none } := by
  simp [release, endEpisode]

@[simp] theorem release_ack (s : State) : (release s).ack = { s.ack with level := 0 } := by simp [release, endEpisode]

@[simp] theorem release_jrn (s : State) : (release s).jrn = (writeRec (.state s.sup.state .normal) s).jrn := by
  simp [release, endEpisode]

@[simp] theorem release_prof (s : State) : (release s).prof = (cancelUnlock s).prof := by simp [release, endEpisode]

@[simp] theorem release_src (s : State) : (release s).src = s.src := (only_release s).same .src

theorem doReleaseSafe_blocked {r : Reason} {s : State} (hb : releaseBlock s = some r) : doReleaseSafe s = refuse r s := by
  simp only [doReleaseSafe, hb]

theorem doReleaseSafe_free {s : State} (hb : releaseBlock s = none) : doReleaseSafe s = okOut (release s) := by
  simp only [doReleaseSafe, hb]

/-- Settles O25: the chain of reasons is that of `releaseBlock`; each refuses by `command_refused`, and without one the command is
a `release`. -/
theorem releaseSafeInOrder : Obligations.ReleaseSafeInOrder := by
  intro h s he
  have hrefuse {r : Reason} (hb : releaseBlock s = some r) : commandRefused r h s (cmdFrame .releaseSafe h 0 s) := by
    obtain ⟨t, rfl, hc, -⟩ := command_refused he nofun (doReleaseSafe_blocked (s := accepted h s) hb)
    exact hc
  refine ⟨_, rfl, ?_⟩
  have hb := releaseBlock_eq s
  by_cases hreq : s.ack.req ≠ none
  · rw [if_pos hreq] at hb ⊢
    exact hrefuse hb
  rw [if_neg hreq] at hb ⊢
  by_cases hdwell : s.sup.dwell ≠ none
  · rw [if_pos hdwell] at hb ⊢
    exact hrefuse hb
  rw [if_neg hdwell] at hb ⊢
  by_cases hact : s.sup.hostReset ≠ .idle ∨ ∃ d, s.sup.powerCut = .delaying d
  · rw [if_pos hact] at hb ⊢
    exact hrefuse hb
  rw [if_neg hact] at hb ⊢
  by_cases hep : s.out.epMin ≠ none
  · rw [if_pos hep] at hb ⊢
    exact hrefuse hb
  rw [if_neg hep] at hb ⊢
  by_cases hsrc : ∃ i, (vget s.src i).state ≠ .quiet ∧
      ((vget s.src i).eff = some .alarm ∨ (vget s.src i).eff = some .critical)
  · rw [if_pos hsrc] at hb ⊢
    exact hrefuse hb
  rw [if_neg hsrc] at hb ⊢
  obtain ⟨t, rfl, d⟩ := command_outcome [.sup, .ack, .jrn, .src] (release (accepted h s)) he nofun
    (doReleaseSafe_free (s := accepted h s) hb) (only_release _).mono (by decide) (.inl (by decide))
  have hfollows := d.srcf
  rw [release_src] at hfollows
  exact ⟨d.done, unlockCancelled_of_cancelled ((release_prof (accepted h s)).trans (cancelUnlock_prof_congr rfl)) d.prof,
    hfollows, Eq.trans (d.rest.same .sup) (release_sup _), Eq.trans (d.rest.same .ack) (release_ack _),
    Eq.trans (d.rest.same .jrn) (release_jrn _)⟩

theorem stepAutoRelease_eq {s : State} (hs : s.sup.state = .safe) (ha : s.sup.active.autoRelease = true)
    (hb : releaseBlock s = none) : stepAutoRelease s = release s :=
  if_pos ⟨hs, ha, by rw [hb]; rfl⟩

/-- Settles O47: the hypotheses leave `releaseBlock` without a reason, so that category 7 is a `release`. -/
theorem automaticReleaseReleases : Obligations.AutomaticReleaseReleases := by
  intro s hr hs ha hreq hdwell hreset hcut hep hsev
  have hb : releaseBlock s = none := by
    have hact : ¬ actionPending s = true := by simp [actionPending_iff, hreset, hcut]
    simp [releaseBlock, hreq, hdwell, hact, hep, hsev]
  refine ⟨_, congrArg Host.Outcome.next (inStageD_running hr), ?_⟩
  rw [stepAutoRelease_eq hs ha hb]
  refine ⟨.trans (only_release s).mono (only_refreshCrit _).mono, release_sup s, release_ack s, ?_, release_prof s, ?_⟩
  · simp [refreshCrit, critNow, hreq]
  · exact (release_jrn s).trans (by rw [hs]; rfl)

/-! ### The host-reset pulse -/

theorem pauseDeadline_eq (a : AckUnit) :
    pauseDeadline a = { a with req := a.req.map (fun r => { r with deadline := none }) } := by
  obtain ⟨req, level⟩ := a
  cases req <;> rfl

theorem startDeadline_eq (limit : Byte) (now : Tick) (a : AckUnit) :
    startDeadline limit now a = { a with
      req := a.req.map (fun r => { r with deadline := some (r.deadline.getD (addTicks now (tenMsTicks limit))) }) } := by
  obtain ⟨req, level⟩ := a
  rcases req with _ | ⟨token, created, deadline, bad⟩
  · rfl
  · cases deadline <;> rfl

theorem wdResume_eq (c : WdCfg) (now : Tick) (w : Watchdog) :
    wdResume c now w =
      if w.phase = .held then { w with phase := .initial (addTicks now (tenMsTicks c.initial)) } else w := by
  unfold wdResume
  cases w.phase <;> simp [wdInitial]

theorem stepPulseStart_eq {start : Tick} {len : Nat} {s : State} (hs : s.sup.state = .safe)
    (hp : s.sup.hostReset = .delaying start len) (hd : isDue s.now start = true) :
    stepPulseStart s = pulseBegin (addTicks s.now len) s := by
  simp only [stepPulseStart, hp]
  exact if_pos ⟨hs, hd⟩

theorem stepPulseEnd_eq {stop : Tick} {s : State} (hs : s.sup.state = .safe) (hp : s.sup.hostReset = .pulsing stop)
    (hd : isDue s.now stop = true) : stepPulseEnd s = pulseOver s := by
  simp only [stepPulseEnd, hp]
  exact if_pos ⟨hs, hd⟩

/-! ### The power cut, the dwell and the EP minimum-active time -/

theorem stepCut_eq {due : Tick} {s : State} (hs : s.sup.state = .safe) (hp : s.sup.powerCut = .delaying due)
    (hd : isDue s.now due = true) : stepCut s = s.setSup { s.sup with powerCut := .cut } := by
  simp only [stepCut, hp]
  exact if_pos ⟨hs, hd⟩

theorem stepDwell_eq {due : Tick} {s : State} (hs : s.sup.state = .safe) (hp : s.sup.dwell = some due)
    (hd : isDue s.now due = true) : stepDwell s = s.setSup { s.sup with dwell := none } := by
  simp only [stepDwell, hp]
  exact if_pos ⟨hs, hd⟩

theorem stepEpMin_eq {due : Tick} {s : State} (hp : s.out.epMin = some due) (hd : isDue s.now due = true) :
    stepEpMin s = s.setOut { s.out with epMin := none } := by
  simp only [stepEpMin, hp]
  exact if_pos hd

/-- Settles O46: each due timer by the equation of its step; the pulse by what it does to the deadline and the watchdog. -/
theorem safeTimersRunOut : Obligations.SafeTimersRunOut := by
  refine ⟨fun start len s hr hs hp hd => ?start, fun stop s hr hs hp hd => ?stop, fun due s hr hs hp hd => ?cut,
    fun due s hr hs hp hd => ?dwell, fun due s hr hp hd => ?epMin⟩
  case start =>
    refine ⟨_, congrArg Host.Outcome.next (inStageD_running hr), ?_⟩
    rw [stepPulseStart_eq hs hp hd]
    exact ⟨.trans (only_pulseBegin _ s).mono (only_refreshCrit _).mono, rfl, rfl, rfl, pauseDeadline_eq s.ack⟩
  case stop =>
    refine ⟨_, congrArg Host.Outcome.next (inStageD_running hr), ?_⟩
    rw [stepPulseEnd_eq hs hp hd]
    exact ⟨.trans (only_pulseOver s).mono (only_refreshCrit _).mono, rfl, rfl, wdResume_eq _ _ _, startDeadline_eq _ _ _⟩
  case cut =>
    refine ⟨_, congrArg Host.Outcome.next (inStageD_running hr), ?_⟩
    rw [stepCut_eq hs hp hd]
    rfl
  case dwell =>
    refine ⟨_, congrArg Host.Outcome.next (inStageD_running hr), ?_⟩
    rw [stepDwell_eq hs hp hd]
    rfl
  case epMin =>
    refine ⟨_, congrArg Host.Outcome.next (inStageD_running hr), ?_⟩
    rw [stepEpMin_eq hp hd]
    rfl

end Sys2Proof.Machine
end

section
/-!
PROOF. The escalation step: the action of each level, and the entry into LOCKDOWN.
-/

namespace Sys2Proof.Machine

set_option Elab.async false

/-! ### A request to the NV Controller -/

theorem nvStart_running (op : NvOp) (s : State) : (nvStart op s).prof.running = s.prof.running := by
  cases op with
  | commit b g p => cases b <;> rfl
  | load => rfl
  | archWrite e => rfl
  | erase => rfl

theorem nvRequest_running (op : NvOp) (s : State) : (nvRequest op s).prof.running = s.prof.running := by
  unfold nvRequest nvBegin
  split
  · exact nvStart_running _ _
  · rfl

theorem sessionOpen_nvRequest (op : NvOp) (s : State) : sessionOpen (nvRequest op s) = sessionOpen s :=
  (storeKept_nvBegin (s.setNv { s.nv with queue := s.nv.queue ++ [op] })).1

/-- An idle controller begins the oldest request, the new one among them (R164). -/
theorem nvRequest_idle {s : State} (op : NvOp) (h : s.nv.cur = none) :
    nvRequest op s =
      (s.setNv (nvAdvanced (s.setNv { s.nv with queue := s.nv.queue ++ [op] }))).setProf
        (storeAdvanced (s.setNv { s.nv with queue := s.nv.queue ++ [op] }) s.prof) :=
  nvBegin_idle (s := s.setNv { s.nv with queue := s.nv.queue ++ [op] }) h

theorem nvRequest_busy {s : State} (op : NvOp) (h : s.nv.cur ≠ none) :
    nvRequest op s = s.setNv { s.nv with queue := s.nv.queue ++ [op] } := by
  unfold nvRequest nvBegin
  split
  · rename_i hc _
    exact absurd hc h
  · rfl

/-- A request waits, or has begun (R164). -/
theorem nvHolds_nvRequest (op : NvOp) (s : State) : nvHolds op (nvRequest op s) := by
  by_cases hc : s.nv.cur = none
  · rw [nvRequest_idle op hc]
    unfold nvHolds nvAdvanced
    cases hq : s.nv.queue <;> simp
  · rw [nvRequest_busy op hc]
    exact .inl (by simp)

/-- A controller that idles has nothing waiting, so that an archive write is the one that begins (R164). -/
theorem nvRequest_archWrite {s : State} (e : ArchEntry) (h : NvInv s) :
    nvRequest (.archWrite e) s = s.setNv (requested (.archWrite e) s.now s.nv) := by
  by_cases hc : s.nv.cur = none
  · rw [nvRequest_idle _ hc, h hc, requested, hc]
    rfl
  · rw [nvRequest_busy _ hc, requested]
    split
    · exact absurd ‹_› hc
    · rfl

theorem nvInv_abortSession {s : State} (h : NvInv s) : NvInv (abortSession s) := by
  unfold NvInv
  rw [(abortSession_effect s).2, nvAfterAbort]
  split
  · exact withoutCommit_idle h
  · exact h

theorem sessionAborted_target {p : ProfileStore} {s t t' : State} (hp : t'.prof = t.prof) (h : sessionAborted p s t) :
    sessionAborted p s t' := by
  unfold sessionAborted bankUnusable at h ⊢
  rwa [hp]

theorem sessionOpen_of_aborted {s t : State} (h : sessionAborted (storeUnlocked s) s t) : sessionOpen t = false := by
  cases ho : sessionOpen s
  · rw [sessionOpen_of_unlocked (h.1 ho), ho]
  · rw [sessionOpen, (h.2 ho).1]

/-! ### Entry into LOCKDOWN -/

/-- LOCKDOWN has been entered and everything of SAFE is cleared, and an open session is still to be aborted (R111, R146). -/
def lockdownBegun (s : State) : State :=
  let s1 := changeState .lockdown s
  let s2 := s1.setAck { s1.ack with req := none }
  let s3 := s2.setSup { s2.sup with dwell := none, hostReset := .idle, powerCut := .idle }
  s3.setOut { s3.out with epMin := none }

/-- The session is aborted and the sticky flag set, and the archive entry is still to be requested (R111). -/
def lockdownSticky (s : State) : State :=
  (abortSession (lockdownBegun s)).setRet { (abortSession (lockdownBegun s)).ret with sticky := true }

theorem enterLockdown_eq (s : State) :
    enterLockdown s =
      (nvRequest (.archWrite (lockdownEntry (lockdownSticky s))) (lockdownSticky s)).setWd
        (wdOff (nvRequest (.archWrite (lockdownEntry (lockdownSticky s))) (lockdownSticky s)).wd) := rfl

theorem only_lockdownBegun (s : State) : onlyParts [.sup, .jrn, .prof, .ack, .out] s (lockdownBegun s) :=
  .trans (.trans (.trans (only_changeState _ _).mono (only_setAck _ _).mono) (only_setSup _ _).mono) (only_setOut _ _).mono

theorem only_lockdownSticky (s : State) :
    onlyParts [.jrn, .nv, .prof, .free, .ret] (lockdownBegun s) (lockdownSticky s) :=
  .trans (only_abortSession _).mono (only_setRet _ _).mono

theorem only_lockdownRequest (s : State) : onlyParts [.nv, .prof, .wd] (lockdownSticky s) (enterLockdown s) := by
  rw [enterLockdown_eq]
  exact .trans (only_nvRequest _ _).mono (only_setWd _ _).mono

theorem lockdownBegun_sup (s : State) :
    (lockdownBegun s).sup = { s.sup with state := .lockdown, dwell := none, hostReset := .idle, powerCut := .idle } := by
  simp [lockdownBegun]

theorem lockdownBegun_prof (s : State) : (lockdownBegun s).prof = (cancelUnlock s).prof := by simp [lockdownBegun]

theorem lockdownBegun_jrn (s : State) : (lockdownBegun s).jrn = (writeRec (.state s.sup.state .lockdown) s).jrn := by
  simp [lockdownBegun]

/-- All that entry into LOCKDOWN leaves in `t` (R111, R120, R136, R146, R159, R161). -/
structure LockdownEntered (s t : State) : Prop where
  sup : t.sup = { s.sup with state := .lockdown, dwell := none, hostReset := .idle, powerCut := .idle }
  ack : t.ack = { s.ack with req := none }
  out : t.out = { s.out with epMin := none }
  ret : t.ret = { s.ret with sticky := true }
  wd : t.wd = { s.wd with phase := .off }
  closed : sessionOpen t = false
  running : t.prof.running = s.prof.running
  entry : nvHolds (.archWrite (lockdownRecord s t)) t
  store : NvInv s → sessionAborted (storeUnlocked s) s t ∧
    t.nv = requested (.archWrite (lockdownRecord s t)) s.now (nvAfterAbort s)
  jrn : journaled ([.state s.sup.state .lockdown] ++ if sessionOpen s then [.session .abort] else []) s t

/-- The store and the controller before the archive entry is requested (R159, R161). -/
theorem lockdownSticky_aborted (s : State) :
    sessionAborted (storeUnlocked s) s (lockdownSticky s) ∧ (lockdownSticky s).nv = nvAfterAbort s := by
  have hnv : (lockdownBegun s).nv = s.nv := by simp [lockdownBegun]
  have hnow : (lockdownBegun s).now = s.now := by simp [lockdownBegun, State.now]
  obtain ⟨hsession, hctrl⟩ := abortSession_effect (lockdownBegun s)
  exact ⟨sessionAborted_of_unlocked (lockdownBegun_prof s) hnv hsession,
    hctrl.trans (nvAfterAbort_of_unlocked (lockdownBegun_prof s) hnv hnow)⟩

theorem lockdownSticky_jrn (s : State) :
    journaled ([.state s.sup.state .lockdown] ++ if sessionOpen s then [.session .abort] else []) s (lockdownSticky s) := by
  have habort := abortSession_jrn (lockdownBegun s)
  rw [sessionOpen_of_unlocked (lockdownBegun_prof s)] at habort
  refine journaled_congr (s := writeRec (.state s.sup.state .lockdown) s) _ (lockdownBegun_jrn s) ?_ ?_ ?_ habort
  · simp [lockdownBegun]
  · rw [lockdownBegun_sup, writeRec_sup]
  · rw [lockdownBegun_prof, cancelUnlock_prof_running, writeRec_prof]

/-- The archive entry requested is the one of the state that has been entered (R136). -/
theorem lockdownEntry_sticky (s : State) :
    lockdownEntry (lockdownSticky s) = lockdownRecord s (enterLockdown s) := by
  have hsup : (lockdownSticky s).sup = (lockdownBegun s).sup := (only_lockdownSticky s).same .sup
  have hjrn : (enterLockdown s).jrn = (lockdownSticky s).jrn := (only_lockdownRequest s).same .jrn
  have hret : (lockdownSticky s).ret = { s.ret with sticky := true } := by
    rw [lockdownSticky, setRet_ret, show (abortSession (lockdownBegun s)).ret = _ from (only_abortSession _).same .ret]
    simp [lockdownBegun]
  rw [lockdownEntry, lockdownRecord, hsup, hjrn, hret, lockdownBegun_sup]

theorem lockdownEntered_enterLockdown (s : State) : LockdownEntered s (enterLockdown s) := by
  have hsticky := only_lockdownSticky s
  have hreq := only_lockdownRequest s
  obtain ⟨hsession, hctrl⟩ := lockdownSticky_aborted s
  have hentry := lockdownEntry_sticky s
  have hclk : (lockdownSticky s).clk = s.clk := Eq.trans (hsticky.same .clk) (by simp [lockdownBegun])
  have hwd : (lockdownSticky s).wd = s.wd := Eq.trans (hsticky.same .wd) (by simp [lockdownBegun])
  refine
    { sup := Eq.trans (hreq.same .sup) (Eq.trans (hsticky.same .sup) (lockdownBegun_sup s))
      ack := Eq.trans (hreq.same .ack) (Eq.trans (hsticky.same .ack) (by simp [lockdownBegun]))
      out := Eq.trans (hreq.same .out) (Eq.trans (hsticky.same .out) (by simp [lockdownBegun]))
      ret := Eq.trans (hreq.same .ret) ?ret
      wd := ?wd
      closed := ?closed
      running := ?running
      entry := ?entry
      store := fun hinv => ?store
      jrn := Eq.trans (hreq.same .jrn) (lockdownSticky_jrn s) }
  case ret =>
    rw [lockdownSticky, setRet_ret, show (abortSession (lockdownBegun s)).ret = _ from (only_abortSession _).same .ret]
    simp [lockdownBegun]
  case wd =>
    rw [enterLockdown_eq, setWd_wd, show (nvRequest _ (lockdownSticky s)).wd = _ from (only_nvRequest _ _).same .wd, hwd, wdOff]
  case closed => exact (sessionOpen_nvRequest _ _).trans (sessionOpen_of_aborted hsession)
  case running => exact (nvRequest_running _ _).trans (running_of_aborted hsession)
  case entry =>
    rw [← hentry]
    exact nvHolds_nvRequest _ (lockdownSticky s)
  case store =>
    have hbegun : NvInv (lockdownBegun s) := hinv.congr (by simp [lockdownBegun])
    have hnv : NvInv (lockdownSticky s) := (nvInv_abortSession hbegun).congr rfl
    have hasked := nvRequest_archWrite (lockdownEntry (lockdownSticky s)) hnv
    rw [← hentry, enterLockdown_eq, hasked]
    refine ⟨sessionAborted_target rfl hsession, ?_⟩
    rw [setWd_nv, setNv_nv, hctrl, State.now, State.now, hclk]

/-! ### The level and the ESCALATE record -/

theorem escalationTarget_eq (s : State) :
    escalationTarget s.prof.running.sup.escCeiling s.ack.level = (levelAfter s, levelPerformed s) := by
  unfold escalationTarget levelAfter levelPerformed
  split <;> rfl

/-- The level has been raised and the ESCALATE record written, and the action is still to be performed (R106). -/
def stepRecorded (s : State) : State := writeRec (.escalate (levelAfter s)) (s.setAck { s.ack with level := levelAfter s })

theorem escalate_eq (s : State) : escalate s = escalationAction (levelPerformed s) s.jrn.seq (stepRecorded s) := by
  rw [escalate, escalationTarget_eq]
  rfl

theorem only_stepRecorded (s : State) : onlyParts [.ack, .jrn] s (stepRecorded s) :=
  .trans (only_setAck _ _).mono (only_writeRec _ _).mono

theorem stepRecorded_jrn (s : State) : (stepRecorded s).jrn = (writeRec (.escalate (levelAfter s)) s).jrn :=
  writeRec_jrn_congr _ rfl rfl rfl rfl

/-! ### Level 1 -/

/-- A request created in `u` as one created in `s` (R100, R101). -/
theorem createRequest_ack_level {s u t : State} (q : Word) (hnow : u.now = s.now) (hrun : u.prof.running = s.prof.running)
    (hreset : t.sup.hostReset = u.sup.hostReset) :
    (createRequest q u).ack = { req := some (newRequest q s t), level := u.ack.level } := by
  rw [createRequest_ack (s := u) q rfl rfl rfl hreset]
  simp only [newRequest, hnow, hrun]

theorem escalatedOnce_merge (s : State) : escalatedOnce s (createRequest s.jrn.seq (mergePlan 7 (stepRecorded s))) := by
  refine ⟨rfl, rfl, createRequest_ack_level _ rfl rfl rfl, stepRecorded_jrn s, ?_⟩
  exact .trans (.trans (only_stepRecorded s).mono (only_mergePlan _ _).mono) (only_createRequest _ _).mono

/-! ### Level 2 -/

theorem escalationPulse_sup_eq (s : State) :
    (escalationPulse s).sup = { s.sup with hostReset := .pulsing (pulseStop s) } := by
  unfold escalationPulse pulseStop
  cases hp : s.sup.hostReset <;> rfl

theorem escalationPulse_wd (s : State) : (escalationPulse s).wd = if pulsingNow s then s.wd else wdHold s.wd := by
  unfold escalationPulse pulsingNow
  cases hp : s.sup.hostReset <;> rfl

theorem escalationPulse_level (s : State) : (escalationPulse s).ack.level = s.ack.level := by
  have hpause (e : Tick) : (pulseBegin e s).ack.level = s.ack.level :=
    (congrArg AckUnit.level (pauseDeadline_eq s.ack) :)
  unfold escalationPulse
  cases hp : s.sup.hostReset
  case idle => exact hpause _
  case delaying => exact hpause _
  case pulsing => rfl

theorem escalatedTwice_pulse (s : State) :
    escalatedTwice s (createRequest s.jrn.seq (escalationPulse (stepRecorded s))) := by
  have hpulse := only_escalationPulse (stepRecorded s)
  have hclk : (escalationPulse (stepRecorded s)).clk = s.clk := hpulse.same .clk
  have hprof : (escalationPulse (stepRecorded s)).prof = s.prof := hpulse.same .prof
  refine ⟨escalationPulse_sup_eq (stepRecorded s), escalationPulse_wd (stepRecorded s), ?_,
    Eq.trans (hpulse.same .jrn) (stepRecorded_jrn s), ?_⟩
  · rw [createRequest_ack_level (s := s) _ (congrArg Clock.tick hclk) (congrArg ProfileStore.running hprof) rfl,
      escalationPulse_level]
    rfl
  · exact .trans (.trans (only_stepRecorded s).mono hpulse.mono) (only_createRequest _ _).mono

/-! ### Level 3 -/

theorem escalatedLast_lockdown (s : State) : escalatedLast s (enterLockdown (stepRecorded s)) := by
  have hentered := lockdownEntered_enterLockdown (stepRecorded s)
  have hunlocked : storeUnlocked (stepRecorded s) = storeUnlocked s := cancelUnlock_prof_congr rfl
  refine ⟨hentered.sup, hentered.ack, hentered.out, hentered.ret, hentered.wd, hentered.closed, hentered.running,
    hentered.entry, fun hinv => ?store, ?jrn, ?frame⟩
  case store =>
    obtain ⟨hsession, hnv⟩ := hentered.store (hinv.congr rfl)
    have hctrl : nvAfterAbort (stepRecorded s) = nvAfterAbort s := nvAfterAbort_congr rfl rfl rfl
    rw [hctrl] at hnv
    rw [hunlocked] at hsession
    exact ⟨sessionAborted_congr rfl rfl hsession, hnv⟩
  case jrn =>
    exact journaled_congr (s := writeRec (.escalate (levelAfter s)) s) _ (stepRecorded_jrn s) rfl rfl rfl hentered.jrn
  case frame =>
    exact .trans (.trans (.trans (only_stepRecorded s).mono (only_lockdownBegun _).mono) (only_lockdownSticky _).mono)
      (only_lockdownRequest _).mono

/-- An escalation step performs the action of its level (R106). -/
theorem escalated_escalate (s : State) : escalated s (escalate s) := by
  rw [escalate_eq]
  refine ⟨fun h => ?_, fun h => ?_, fun h => ?_⟩ <;> rw [h]
  · exact escalatedOnce_merge s
  · exact escalatedTwice_pulse s
  · exact escalatedLast_lockdown s

end Sys2Proof.Machine
end

section
/-!
PROOF. Dispatch by state and class, and the expiry of an alarm: entry into SAFE, the Alarm List, and the merge in SAFE with its
compound fault.
-/

namespace Sys2Proof.Machine

set_option Elab.async false

/-! ### Entry into SAFE after other steps of the Supervisor -/

/-- The fields in which entry into SAFE from `u` tells of the state `s` before the steps that led to `u`. -/
structure SafeReached (n : Fin 8) (s u t : State) : Prop where
  out : t.out = { s.out with epMin := mergeEpMin (planOf s n) s.prof.running.ep.min s.now s.out.epMin }
  ack : t.ack = { s.ack with req :=
    if (planOf s n).ack = true ∧ (planOf s n).pwrCut = false then some (newRequest u.jrn.seq s t) else s.ack.req }
  session : sessionAborted (storeUnlocked s) s t
  nv : t.nv = nvAfterAbort s

/-- Records and changes of the Supervisor's own data leave the plans, the request and the session to come (R90, R100, R159). -/
theorem SafeEntered.reached {n : Fin 8} {i : SrcId} {s u t : State} (h : SafeEntered n i u t)
    (ho : onlyParts [.sup, .jrn, .st] s u) : SafeReached n s u t := by
  have hprof : u.prof = s.prof := ho.same .prof
  have hnow : u.now = s.now := congrArg Clock.tick (ho.same .clk)
  have hack : u.ack = s.ack := ho.same .ack
  have hout : u.out = s.out := ho.same .out
  have hnv : u.nv = s.nv := ho.same .nv
  have hplan : planOf u = planOf s := planOf_of_running (congrArg ProfileStore.running hprof)
  have hstore : storeUnlocked u = storeUnlocked s := cancelUnlock_prof_congr hprof
  have htout := h.out
  have htack := h.ack
  rw [hplan, hprof, hnow, hout] at htout
  rw [hplan, hack, newRequest_congr hnow hprof rfl] at htack
  exact ⟨htout, htack, sessionAborted_congr hprof hnv (hstore ▸ h.session), h.nv.trans (nvAfterAbort_congr hprof hnv hnow)⟩

/-! ### A due alarm -/

theorem stepExpiry_eq {x : Alarm} {rest : List Alarm} {s : State} (hs : s.sup.state = .alert)
    (hl : s.sup.alarms = x :: rest) (hd : isDue s.now x.expiry = true) :
    stepExpiry s = enterSafe x.plan x.src (writeRec (.expiry x.src) s) := by
  simp only [stepExpiry, hl]
  exact if_pos ⟨hs, hd⟩

/-- Settles O44: the EXPIRY record and then entry into SAFE (`safeEntered_enterSafe`). -/
theorem expiryEntersSafe : Obligations.ExpiryEntersSafe := by
  intro x rest s hr hs hl hd
  refine ⟨_, congrArg Host.Outcome.next (inStageD_running hr), ?_⟩
  rw [stepExpiry_eq hs hl hd]
  have hframe := only_enterSafe x.plan x.src (writeRec (.expiry x.src) s)
  have hentered := safeEntered_enterSafe x.plan x.src (writeRec (.expiry x.src) s)
  have hreached := hentered.reached (only_writeRec (.expiry x.src) s).mono
  have hjrn := hentered.jrn
  have hack := hreached.ack
  rw [writeRec_sup, hs] at hjrn
  rw [writeRec_jrn_seq] at hack
  exact ⟨.trans (.trans (only_writeRec _ _).mono hframe.mono) (only_refreshCrit _).mono, rfl, hentered.sup, hack,
    hreached.out, hreached.session, hreached.nv, hframe.same .wd, hframe.same .ret, hframe.same .st, hjrn⟩

/-! ### The first steps of a dispatch -/

theorem abortSelftest_runAborted (s : State) : runAborted s (abortSelftest s) := by
  unfold runAborted abortSelftest
  split <;> rfl

/-- The episode of a dispatch that leaves NORMAL (R80). -/
theorem episodeIfNormal_sup_eq (o : Occ) (s : State) :
    (episodeIfNormal o.src s).sup = { s.sup with episode := episodeAfter s, first := firstAfter o s } := by
  unfold episodeIfNormal episodeAfter firstAfter
  split <;> rfl

/-- An ALARM or CRITICAL in NORMAL or ALERT has aborted a self-test, begun its episode and written its record (R80, R84, R170). -/
def raised (exhausted : Bool) (o : Occ) (s : State) : State :=
  writeRec (raiseBody o exhausted) (episodeIfNormal o.src (abortSelftest s))

theorem only_raised (exhausted : Bool) (o : Occ) (s : State) : onlyParts [.sup, .jrn, .st] s (raised exhausted o s) :=
  .trans (.trans (only_abortSelftest _).mono (only_episodeIfNormal _ _).mono) (only_writeRec _ _).mono

theorem raised_sup (exhausted : Bool) (o : Occ) (s : State) :
    (raised exhausted o s).sup = { s.sup with episode := episodeAfter s, first := firstAfter o s } := by
  rw [raised, writeRec_sup, episodeIfNormal_sup_eq, episodeAfter, firstAfter, abortSelftest_sup]
  rfl

theorem raised_st (exhausted : Bool) (o : Occ) (s : State) : runAborted s (raised exhausted o s) :=
  Eq.trans ((only_episodeIfNormal o.src (abortSelftest s)).same .st) (abortSelftest_runAborted s)

/-- The record bears the episode that the dispatch has begun (R80, R127). -/
theorem raised_jrn (exhausted : Bool) (o : Occ) (s : State) :
    (raised exhausted o s).jrn =
      (writeRec (raiseBody o exhausted) (s.setSup { s.sup with episode := episodeAfter s })).jrn := by
  have ho : onlyParts [.sup, .st] s (episodeIfNormal o.src (abortSelftest s)) :=
    .trans (only_abortSelftest _).mono (only_episodeIfNormal _ _).mono
  have hclk : (episodeIfNormal o.src (abortSelftest s)).clk = s.clk := ho.same .clk
  have hprof : (episodeIfNormal o.src (abortSelftest s)).prof = s.prof := ho.same .prof
  refine writeRec_jrn_congr _ (ho.same .jrn) (congrArg Clock.tick hclk) ?_
    (congrArg (fun p => p.running.jrn.policy) hprof)
  exact (congrArg Supervisor.episode (raised_sup exhausted o s) :)

theorem raised_seq (exhausted : Bool) (o : Occ) (s : State) : (raised exhausted o s).jrn.seq = s.jrn.seq + 1 := by
  rw [raised_jrn]
  exact writeRec_jrn_seq _ _

/-! ### Dispatch in NORMAL and ALERT -/

theorem dispatch_calm {s : State} (h : s.sup.state = .normal ∨ s.sup.state = .alert) (o : Occ) :
    dispatch o s = dispatchCalm o s := by
  rcases h with h | h <;> simp only [dispatch, h]

/-- The state from which an exhausting ALARM enters SAFE: the exhaustion is counted (R87). -/
def raisedInto (exhausted : Bool) (o : Occ) (s : State) : State :=
  if exhausted then
    (raised true o s).setSup { (raised true o s).sup with fullCount := satInc (raised true o s).sup.fullCount }
  else raised false o s

theorem dispatchCalm_critical {o : Occ} (h : o.cls = .critical) (s : State) :
    dispatchCalm o s = enterSafe o.plan o.src (raisedInto false o s) := by
  simp only [dispatchCalm, h]
  rfl

theorem dispatchCalm_exhausted {o : Occ} {s : State} (h : o.cls = .alarm) (hfull : 8 ≤ s.sup.alarms.length) :
    dispatchCalm o s = enterSafe o.plan o.src (raisedInto true o s) := by
  simp only [dispatchCalm, h]
  exact if_neg (Nat.not_lt.mpr hfull)

theorem only_raisedInto (exhausted : Bool) (o : Occ) (s : State) :
    onlyParts [.sup, .jrn, .st] s (raisedInto exhausted o s) := by
  cases exhausted
  · exact only_raised false o s
  · exact .trans (only_raised true o s) (only_setSup _ _).mono

theorem raisedInto_sup (exhausted : Bool) (o : Occ) (s : State) :
    (raisedInto exhausted o s).sup =
      { s.sup with
        episode := episodeAfter s, first := firstAfter o s
        fullCount := if exhausted then satInc s.sup.fullCount else s.sup.fullCount } := by
  cases exhausted
  · exact raised_sup false o s
  · simp [raisedInto, raised_sup]

theorem raisedInto_jrn (exhausted : Bool) (o : Occ) (s : State) :
    (raisedInto exhausted o s).jrn = (raised exhausted o s).jrn := by
  cases exhausted <;> rfl

theorem raisedInto_st (exhausted : Bool) (o : Occ) (s : State) : runAborted s (raisedInto exhausted o s) := by
  cases exhausted
  · exact raised_st false o s
  · exact raised_st true o s

/-- SAFE is entered from NORMAL or ALERT (R82, R87, R90). -/
theorem dispatchedIntoSafe_enterSafe (exhausted : Bool) (o : Occ) (s : State) :
    dispatchedIntoSafe exhausted o s (enterSafe o.plan o.src (raisedInto exhausted o s)) := by
  have hbefore := only_raisedInto exhausted o s
  have hframe := only_enterSafe o.plan o.src (raisedInto exhausted o s)
  have hentered := safeEntered_enterSafe o.plan o.src (raisedInto exhausted o s)
  have hreached := hentered.reached hbefore
  have hprof : (raisedInto exhausted o s).prof = s.prof := hbefore.same .prof
  have hclk : (raisedInto exhausted o s).clk = s.clk := hbefore.same .clk
  have hplan : planOf (raisedInto exhausted o s) = planOf s := planOf_of_running (congrArg ProfileStore.running hprof)
  have hnow : (raisedInto exhausted o s).now = s.now := congrArg Clock.tick hclk
  refine ⟨.trans hbefore.mono hframe.mono, ?st, Eq.trans (hframe.same .ret) (hbefore.same .ret),
    Eq.trans (hframe.same .wd) (hbefore.same .wd), ?sup, ?ack, hreached.out, hreached.session, hreached.nv, ?jrn⟩
  case st => exact Eq.trans (hframe.same .st) (raisedInto_st exhausted o s)
  case sup => rw [hentered.sup, hplan, hnow, raisedInto_sup]
  case ack =>
    have hack := hreached.ack
    rwa [raisedInto_jrn, raised_seq] at hack
  case jrn =>
    have hjrn := hentered.jrn
    rw [sessionOpen_congr (congrArg ProfileStore.session hprof), raisedInto_sup] at hjrn
    refine journaled_congr (s := writeRec (raiseBody o exhausted) (s.setSup { s.sup with episode := episodeAfter s })) _
      ((raisedInto_jrn exhausted o s).trans (raised_jrn exhausted o s)) (congrArg Clock.tick hclk) ?_
      (congrArg (fun p => p.running.jrn.policy) hprof) hjrn
    rw [raisedInto_sup]
    rfl

/-- The Alarm List takes the entry, and NORMAL becomes ALERT (R82, R85). -/
def alarmListed (o : Occ) (s : State) : State :=
  (raised false o s).setSup { (raised false o s).sup with
    alarms := insertAlarm { src := o.src, expiry := addTicks s.now (msTicks o.alarmTime), plan := o.plan } s.sup.alarms }

theorem dispatchCalm_alarm {o : Occ} {s : State} (h : o.cls = .alarm) (hroom : s.sup.alarms.length < 8) :
    dispatchCalm o s = if s.sup.state = .normal then changeState .alert (alarmListed o s) else alarmListed o s := by
  have hclk : (raised false o s).clk = s.clk := (only_raised false o s).same .clk
  have hnow : (raised false o s).now = s.now := congrArg Clock.tick hclk
  have halarms : (raised false o s).sup.alarms = s.sup.alarms := by rw [raised_sup]
  have hstate : (alarmListed o s).sup.state = s.sup.state := by rw [alarmListed, setSup_sup, raised_sup]
  have hcalm : dispatchCalm o s = dispatchAlarm o (abortSelftest s) := by
    simp only [dispatchCalm, h]
    exact if_pos hroom
  rw [hcalm, ← hstate, alarmListed, ← halarms, ← hnow]
  rfl

theorem only_alarmListed (o : Occ) (s : State) : onlyParts [.sup, .jrn, .st] s (alarmListed o s) :=
  .trans (only_raised false o s) (only_setSup _ _).mono

theorem alarmListed_sup (o : Occ) (s : State) :
    (alarmListed o s).sup =
      { s.sup with
        alarms := insertAlarm { src := o.src, expiry := addTicks s.now (msTicks o.alarmTime), plan := o.plan } s.sup.alarms
        episode := episodeAfter s, first := firstAfter o s } := by
  rw [alarmListed, setSup_sup, raised_sup]

/-- An ALARM that finds room joins the Alarm List at its place, and the supervisor is in ALERT (R80, R82, R85). -/
theorem dispatchedToAlert_dispatchCalm {o : Occ} {s : State} (h : o.cls = .alarm)
    (hs : s.sup.state = .normal ∨ s.sup.state = .alert) (hroom : s.sup.alarms.length < 8) :
    dispatchedToAlert o s (dispatchCalm o s) := by
  have hbefore := only_alarmListed o s
  have hprof : (alarmListed o s).prof = s.prof := hbefore.same .prof
  have hclk : (alarmListed o s).clk = s.clk := hbefore.same .clk
  have hsup := alarmListed_sup o s
  have hlist := insertAlarm_split
    { src := o.src, expiry := addTicks s.now (msTicks o.alarmTime), plan := o.plan } s.sup.alarms
  rw [dispatchCalm_alarm h hroom]
  unfold dispatchedToAlert
  rw [show RecBody.raise o.src .alarm o.injected o.promoted false o.node o.detail = raiseBody o false by rw [raiseBody, h]]
  rcases hs with hs | hs
  · have hstate := changeState_sup .alert (alarmListed o s)
    have hunlocked : (cancelUnlock (alarmListed o s)).prof = (cancelUnlock s).prof := cancelUnlock_prof_congr hprof
    have hepisode : (alarmListed o s).sup.episode = episodeAfter s := by rw [hsup]
    simp only [hs, if_true]
    rw [hsup] at hstate
    refine ⟨.trans hbefore.mono (only_changeState _ _).mono, ?_, ?_, ?_, (changeState_prof _ _).trans hunlocked, ?_⟩
    · exact Eq.trans ((only_changeState .alert (alarmListed o s)).same .st) (raised_st false o s)
    · rw [hstate]
    · rw [hstate]
      exact hlist
    · have hfrom : (alarmListed o s).sup.state = .normal := by rw [hsup, hs]
      rw [journaled, changeState_jrn, hfrom]
      exact writeRec_jrn_congr _ (raised_jrn false o s) (congrArg Clock.tick hclk) hepisode
        (congrArg (fun p => p.running.jrn.policy) hprof)
  · simp only [hs, reduceCtorEq, if_false]
    refine ⟨hbefore.mono, raised_st false o s, ?_, ?_, hprof, raised_jrn false o s⟩
    · rw [hsup, ← hs]
    · rw [hsup]
      exact hlist

/-! ### Dispatch in SAFE -/

/-- A CRITICAL in SAFE has been recorded and its plan merged (R83, R91). -/
def mergedInSafe (o : Occ) (s : State) : State := mergePlan o.plan (writeRec (raiseBody o false) s)

/-- The request of the merge has been created if there is one, and an open session is still to be aborted (R100). -/
def requestedInSafe (o : Occ) (s : State) : State :=
  if mergeRequests o s (mergedInSafe o s) then createRequest s.jrn.seq (mergedInSafe o s) else mergedInSafe o s

theorem dispatchMerge_eq (o : Occ) (s : State) :
    dispatchMerge o s =
      if compoundFault s then escalate (abortSession (requestedInSafe o s)) else abortSession (requestedInSafe o s) := rfl

theorem mergeRequests_iff (o : Occ) (s : State) :
    mergeRequests o s (mergedInSafe o s) = true ↔
      s.ack.req = none ∧ (planOf s o.plan).ack = true ∧ (planOf s o.plan).pwrCut = false ∧
        s.sup.active.pwrCut = false := by
  have hcut : (mergedInSafe o s).sup.active.pwrCut = (s.sup.active.pwrCut || (planOf s o.plan).pwrCut) := rfl
  simp only [mergeRequests, hcut, effectiveAck, Bool.and_eq_true, Bool.not_eq_true', Bool.or_eq_false_iff,
    Option.isNone_iff_eq_none]
  tauto

theorem compoundFault_iff (s : State) : compoundFault s = true ↔ ∃ r, s.ack.req = some r ∧ r.created ≠ s.now := by
  unfold compoundFault
  cases s.ack.req <;> simp

theorem only_requestedInSafe (o : Occ) (s : State) :
    onlyParts [.ack] (mergedInSafe o s) (requestedInSafe o s) := .also _ (.refl _ _) (only_createRequest _ _)

theorem only_mergedInSafe (o : Occ) (s : State) : onlyParts [.sup, .out, .jrn] s (mergedInSafe o s) :=
  .trans (only_writeRec _ _).mono (only_mergePlan _ _).mono

theorem requestedInSafe_ack (o : Occ) {s t : State} (hreset : t.sup.hostReset = (mergedInSafe o s).sup.hostReset) :
    (requestedInSafe o s).ack = { s.ack with req :=
      if s.ack.req = none ∧ (planOf s o.plan).ack = true ∧ (planOf s o.plan).pwrCut = false ∧
          s.sup.active.pwrCut = false then some (newRequest s.jrn.seq s t)
      else s.ack.req } := by
  unfold requestedInSafe
  simp only [mergeRequests_iff]
  split
  · exact createRequest_ack _ rfl rfl rfl hreset
  · rfl

/-- A self-test that a dispatch aborts is all that it changes (R170). -/
theorem abortSelftest_eq_setSt (s : State) : ∃ x, abortSelftest s = s.setSt x := by
  unfold abortSelftest
  split
  · exact ⟨_, rfl⟩
  · exact ⟨s.st, rfl⟩

/-- A CRITICAL in SAFE, before any escalation (R83, R91, R100, R159). -/
theorem dispatchedInSafe_abortSession {o : Occ} (h : o.cls = .critical) (s : State) :
    dispatchedInSafe o s (abortSession (requestedInSafe o (abortSelftest s))) := by
  have hrun := abortSelftest_runAborted s
  obtain ⟨x, hx⟩ := abortSelftest_eq_setSt s
  rw [hx] at hrun ⊢
  have hmerge := only_mergedInSafe o (s.setSt x)
  have hreq := only_requestedInSafe o (s.setSt x)
  have hab := only_abortSession (requestedInSafe o (s.setSt x))
  have hprof : (requestedInSafe o (s.setSt x)).prof = s.prof := Eq.trans (hreq.same .prof) (hmerge.same .prof)
  have hnv : (requestedInSafe o (s.setSt x)).nv = s.nv := Eq.trans (hreq.same .nv) (hmerge.same .nv)
  have hclk : (requestedInSafe o (s.setSt x)).clk = s.clk := Eq.trans (hreq.same .clk) (hmerge.same .clk)
  have hsup : (requestedInSafe o (s.setSt x)).sup = (mergedInSafe o (s.setSt x)).sup := hreq.same .sup
  have htsup := Eq.trans (hab.same .sup) hsup
  obtain ⟨hsession, hctrl⟩ := abortSession_effect (requestedInSafe o (s.setSt x))
  rw [hprof] at hsession
  refine ⟨?frame, Eq.trans (hab.same .st) (Eq.trans (hreq.same .st) hrun), htsup,
    Eq.trans (hab.same .ack) (requestedInSafe_ack o (congrArg Supervisor.hostReset htsup)),
    Eq.trans (hab.same .out) (hreq.same .out), sessionAborted_congr hprof hnv hsession,
    hctrl.trans (nvAfterAbort_congr hprof hnv (congrArg Clock.tick hclk)), ?jrn⟩
  case frame => exact .trans (.trans (.trans (only_setSt s x).mono hmerge.mono) hreq.mono) hab.mono
  case jrn =>
    have habort := abortSession_jrn (requestedInSafe o (s.setSt x))
    rw [sessionOpen_congr (congrArg ProfileStore.session hprof)] at habort
    rw [show RecBody.raise o.src .critical o.injected o.promoted false o.node o.detail = raiseBody o false by
      rw [raiseBody, h]]
    have hepisode : (requestedInSafe o (s.setSt x)).sup.episode = s.sup.episode := by
      rw [hsup]
      rfl
    exact journaled_congr (s := writeRec (raiseBody o false) s) _ (hreq.same .jrn) (congrArg Clock.tick hclk)
      hepisode (congrArg (fun p => p.running.jrn.policy) hprof) habort

theorem dispatch_safe {s : State} (h : s.sup.state = .safe) (o : Occ) : dispatch o s = dispatchSafe o s := by
  simp only [dispatch, h]

/-- In SAFE a CRITICAL is merged, and a compound fault also escalates (R83, R105). -/
theorem dispatch_mergeInSafe {o : Occ} {s : State} (hs : s.sup.state = .safe) (hc : o.cls = .critical) :
    dispatch o s =
      if compoundFault s then escalate (abortSession (requestedInSafe o (abortSelftest s)))
      else abortSession (requestedInSafe o (abortSelftest s)) := by
  have hfault : compoundFault (abortSelftest s) = compoundFault s := by
    obtain ⟨x, hx⟩ := abortSelftest_eq_setSt s
    rw [hx]
    rfl
  rw [dispatch_safe hs, ← hfault, ← dispatchMerge_eq]
  simp only [dispatchSafe, hc]

/-! ### Occurrences that are recorded only -/

/-- NOTICE outside LOCKDOWN, and every class in LOCKDOWN (R82, R83, R84). -/
theorem dispatch_recorded {o : Occ} {s : State}
    (h : o.cls = .notice ∧ (s.sup.state = .normal ∨ s.sup.state = .alert ∨ s.sup.state = .safe) ∨
      s.sup.state = .lockdown) : dispatch o s = writeRec (raiseBody o false) s := by
  rcases h with ⟨hc, hs | hs | hs⟩ | hs
  · simp only [dispatch, hs, dispatchCalm, hc]
  · simp only [dispatch, hs, dispatchCalm, hc]
  · simp only [dispatch, hs, dispatchSafe, hc]
  · simp only [dispatch, hs]

theorem dispatch_alarmInSafe {o : Occ} {s : State} (hs : s.sup.state = .safe) (hc : o.cls = .alarm) :
    dispatch o s = writeRec (raiseBody o false) (abortSelftest s) := by
  rw [dispatch_safe hs]
  simp only [dispatchSafe, hc]

/-- Settles O43: each row of the table by the equation of `dispatch` there; entry into SAFE by `dispatchedIntoSafe_enterSafe`, ALERT
by `dispatchedToAlert_dispatchCalm`, the merge by `dispatchedInSafe_abortSession`, and the compound fault by `escalated_escalate`. -/
theorem criticalEntersSafe : Obligations.CriticalEntersSafe := by
  refine ⟨fun o s hs hc => ?critical, fun o s hs hc => ⟨fun hfull => ?exhausted, fun hroom => ?alarm⟩, fun o s hrec => ?recorded,
    fun o s hs hc => ?alarmInSafe, fun o s hs hc => ⟨fun hnow => ?merge, fun r hr hearlier => ?compound⟩⟩
  case critical =>
    rw [dispatch_calm hs, dispatchCalm_critical hc]
    exact dispatchedIntoSafe_enterSafe false o s
  case exhausted =>
    rw [dispatch_calm hs, dispatchCalm_exhausted hc hfull]
    exact dispatchedIntoSafe_enterSafe true o s
  case alarm =>
    rw [dispatch_calm hs]
    exact dispatchedToAlert_dispatchCalm hc hs hroom
  case recorded =>
    rw [dispatch_recorded hrec]
    exact ⟨only_writeRec _ _, rfl⟩
  case alarmInSafe =>
    have hrun := abortSelftest_runAborted s
    obtain ⟨x, hx⟩ := abortSelftest_eq_setSt s
    rw [dispatch_alarmInSafe hs hc]
    rw [hx] at hrun ⊢
    rw [← hc]
    exact ⟨.trans (only_setSt s x).mono (only_writeRec _ _).mono, hrun, writeRec_jrn_congr _ rfl rfl rfl rfl⟩
  case merge =>
    have hcalm : ¬ compoundFault s = true := by
      rw [compoundFault_iff]
      rintro ⟨r, hr, hearlier⟩
      exact hearlier (hnow r hr)
    rw [dispatch_mergeInSafe hs hc, if_neg hcalm]
    exact dispatchedInSafe_abortSession hc s
  case compound =>
    rw [dispatch_mergeInSafe hs hc, if_pos ((compoundFault_iff s).mpr ⟨r, hr, hearlier⟩)]
    exact ⟨_, dispatchedInSafe_abortSession hc s, escalated_escalate _⟩

end Sys2Proof.Machine
end

section
/-!
PROOF. ACK_SAFE by its token, and the two triggers of an escalation step that end the pending request: its second bad token and
its due deadline.
-/

namespace Sys2Proof.Machine

set_option Elab.async false

/-! ### An escalation step told from another state -/

/-- A step after the port or the pending request has changed is a step of the state before that: it keeps the level and replaces the
request (R106, R107, R108, R111). -/
theorem escalated_of_requestChanged {p : HostPort} {q : Option AckReq} {s t : State}
    (h : escalated ((s.setPort p).setAck { s.ack with req := q }) t) : escalated s t := by
  have hreq : onlyParts [.port, .ack] s ((s.setPort p).setAck { s.ack with req := q }) :=
    .trans (only_setPort _ _).mono (only_setAck _ _).mono
  obtain ⟨honce, htwice, hlast⟩ := h
  refine ⟨fun hl => ?once, fun hl => ?twice, fun hl => ?last⟩
  case once =>
    obtain ⟨hsup, hout, hack, hjrn, hrest⟩ := honce hl
    exact ⟨hsup, hout, hack, journaled_congr _ rfl rfl rfl rfl hjrn, hreq.mono.trans hrest⟩
  case twice =>
    obtain ⟨hsup, hwd, hack, hjrn, hrest⟩ := htwice hl
    exact ⟨hsup, hwd, hack, journaled_congr _ rfl rfl rfl rfl hjrn, hreq.mono.trans hrest⟩
  case last =>
    obtain ⟨hsup, hack, hout, hret, hwd, hclosed, hrun, hentry, hstore, hjrn, hrest⟩ := hlast hl
    refine ⟨hsup, hack, hout, hret, hwd, hclosed, hrun, hentry, fun hinv => ?_,
      journaled_congr (s' := (s.setPort p).setAck { s.ack with req := q }) _ rfl rfl rfl rfl hjrn, hreq.mono.trans hrest⟩
    obtain ⟨hsession, hnv⟩ := hstore (hinv.congr rfl)
    have hunlocked : storeUnlocked ((s.setPort p).setAck { s.ack with req := q }) = storeUnlocked s :=
      cancelUnlock_prof_congr rfl
    have hctrl : nvAfterAbort ((s.setPort p).setAck { s.ack with req := q }) = nvAfterAbort s := nvAfterAbort_congr rfl rfl rfl
    rw [hunlocked] at hsession
    rw [hctrl] at hnv
    exact ⟨sessionAborted_congr rfl rfl hsession, hnv⟩

theorem newRequest_target {q : Word} {s t t' : State} (h : t'.sup = t.sup) : newRequest q s t' = newRequest q s t := by
  have hidle : hostResetIdle t' = hostResetIdle t := by rw [hostResetIdle, h, hostResetIdle]
  rw [newRequest, newRequest, hidle]

/-- What the host port adds after a step, or nCRIT at the end of Stage D, is not part of the step. -/
theorem escalated.answered {s t t' : State} (h : escalated s t) (ho : onlyParts [.port, .src, .attn, .crit, .prof] t t')
    (hp : levelPerformed s = 3 → t'.prof = t.prof) : escalated s t' := by
  have hsup : t'.sup = t.sup := ho.same .sup
  have hack : t'.ack = t.ack := ho.same .ack
  have hout : t'.out = t.out := ho.same .out
  have hwd : t'.wd = t.wd := ho.same .wd
  have hret : t'.ret = t.ret := ho.same .ret
  have hnv : t'.nv = t.nv := ho.same .nv
  have hjrn : t'.jrn = t.jrn := ho.same .jrn
  obtain ⟨honce, htwice, hlast⟩ := h
  refine ⟨fun hl => ?once, fun hl => ?twice, fun hl => ?last⟩
  case once =>
    obtain ⟨hsup1, hout1, hack1, hjrn1, hrest⟩ := honce hl
    rw [← newRequest_target hsup] at hack1
    exact ⟨hsup.trans hsup1, hout.trans hout1, hack.trans hack1, hjrn.trans hjrn1, hrest.trans ho.mono⟩
  case twice =>
    obtain ⟨hsup2, hwd2, hack2, hjrn2, hrest⟩ := htwice hl
    rw [← newRequest_target hsup] at hack2
    exact ⟨hsup.trans hsup2, hwd.trans hwd2, hack.trans hack2, hjrn.trans hjrn2, hrest.trans ho.mono⟩
  case last =>
    obtain ⟨hsup3, hack3, hout3, hret3, hwd3, hclosed, hrun, hentry, hstore, hjrn3, hrest⟩ := hlast hl
    have hprof := hp hl
    have hrecord : lockdownRecord s t' = lockdownRecord s t := by rw [lockdownRecord, lockdownRecord, hjrn]
    refine ⟨hsup.trans hsup3, hack.trans hack3, hout.trans hout3, hret.trans hret3, hwd.trans hwd3,
      (sessionOpen_congr (congrArg ProfileStore.session hprof)).trans hclosed, ?_, ?_, fun hinv => ?_, hjrn.trans hjrn3,
      hrest.trans ho.mono⟩
    · rw [hprof, hrun]
    · rw [hrecord, nvHolds, hnv]
      exact hentry
    · obtain ⟨hsession, hctrl⟩ := hstore hinv
      rw [hrecord, hnv]
      exact ⟨sessionAborted_target hprof hsession, hctrl⟩

/-! ### The session under a step -/

theorem nvRequest_session (op : NvOp) (s : State) : (nvRequest op s).prof.session = s.prof.session := by
  unfold nvRequest nvBegin
  split
  · cases ‹NvOp› with
    | commit b g p => cases b <;> rfl
    | load => rfl
    | archWrite e => rfl
    | erase => rfl
  · rfl

theorem cancelUnlock_of_closed {s : State} (h : s.prof.session = .closed) : cancelUnlock s = s := by
  simp only [cancelUnlock, h]

/-- Without an open session a cancelled unlock step leaves none at all (R156). -/
theorem cancelUnlock_session {s : State} (h : sessionOpen s = false) : (cancelUnlock s).prof.session = .closed := by
  unfold sessionOpen at h
  unfold cancelUnlock
  cases hs : s.prof.session
  case closed => exact hs
  case unlocking => rfl
  case opn => rw [hs] at h; exact nomatch h

/-- Entry into LOCKDOWN leaves neither an open session nor an unlock step (R111, R156). -/
theorem enterLockdown_session (s : State) : (enterLockdown s).prof.session = .closed := by
  have hsticky : (lockdownSticky s).prof.session = .closed := by
    obtain ⟨hunlocked, haborted⟩ := (lockdownSticky_aborted s).1
    cases ho : sessionOpen s
    · rw [hunlocked ho]
      exact cancelUnlock_session ho
    · rw [(haborted ho).1]
  rw [enterLockdown_eq, setWd_prof, nvRequest_session, hsticky]

/-- A step that does not enter LOCKDOWN leaves the store alone (R107, R108). -/
theorem escalate_prof {s : State} (h : levelPerformed s ≠ 3) : (escalate s).prof = s.prof := by
  rw [escalate_eq]
  generalize levelPerformed s = l at h ⊢
  unfold escalationAction
  split
  · rfl
  · rfl
  · exact (only_escalationPulse _).same .prof
  · have := l.isLt
    exact absurd (BitVec.eq_of_toNat_eq (show l.toNat = 3 by grind)) h

/-- After a step no unlock step is left to cancel when LOCKDOWN has been entered (R111, R156). -/
theorem cancelUnlock_escalate {s : State} (h : levelPerformed s = 3) : cancelUnlock (escalate s) = escalate s := by
  rw [escalate_eq, h]
  exact cancelUnlock_of_closed (enterLockdown_session _)

/-! ### ACK_SAFE -/

theorem doAckSafe_noRequest {tok : Byte} {s : State} (hr : s.ack.req = none) :
    doAckSafe (tok.setWidth 24) s = refuse .noAckPending s := by
  simp only [doAckSafe, acknowledge, hr]

theorem doAckSafe_right {r : AckReq} {s : State} (hr : s.ack.req = some r) :
    doAckSafe (r.token.setWidth 24) s = okOut (writeRec .ack (s.setAck { s.ack with req := none })) := by
  simp only [doAckSafe, acknowledge, hr, argLow_setWidth, if_true]

theorem doAckSafe_firstBad {tok : Byte} {r : AckReq} {s : State} (hr : s.ack.req = some r) (ht : tok ≠ r.token)
    (hb : r.bad = false) :
    doAckSafe (tok.setWidth 24) s = plainOut .badToken (s.setAck { s.ack with req := some { r with bad := true } }) := by
  simp only [doAckSafe, acknowledge, hr, argLow_setWidth, if_neg ht, hb, Bool.false_eq_true, if_false]

theorem doAckSafe_secondBad {tok : Byte} {r : AckReq} {s : State} (hr : s.ack.req = some r) (ht : tok ≠ r.token)
    (hb : r.bad = true) :
    doAckSafe (tok.setWidth 24) s =
      plainOut .badToken (escalate (s.setAck { s.ack with req := some { r with bad := false } })) := by
  simp only [doAckSafe, acknowledge, hr, argLow_setWidth, if_neg ht, hb, if_true]

/-- Settles O23: `command_refused` without a request, and else `command_outcome` around what the token does. -/
theorem ackSafeByToken : Obligations.AckSafeByToken := by
  intro h tok s he
  refine ⟨fun hr => ?none, fun r hr => ⟨fun ht => ?right, fun ht hb => ?bad⟩⟩
  case none =>
    obtain ⟨t, rfl, hc, -⟩ := command_refused he nofun (doAckSafe_noRequest (s := accepted h s) hr)
    exact ⟨_, rfl, hc⟩
  case right =>
    subst ht
    obtain ⟨t, rfl, d⟩ := command_outcome [.ack, .jrn, .src] (writeRec .ack ((accepted h s).setAck { s.ack with req := none })) he
      nofun (doAckSafe_right (s := accepted h s) hr) (.trans (only_setAck _ _).mono (only_writeRec _ _).mono) (by decide)
      (.inl (by decide))
    exact ⟨_, rfl, d.done, d.prof.trans (cancelUnlock_prof_congr rfl), d.srcf, d.rest.same .ack,
      Eq.trans (d.rest.same .jrn) (writeRec_jrn_congr _ rfl rfl rfl rfl)⟩
  case bad =>
    have hcounted : onlyParts [.port, .ack] s ((accepted h s).setAck { s.ack with req := some { r with bad := true } }) :=
      .trans (only_accepted h s).mono (only_setAck _ _).mono
    obtain ⟨t, rfl, d⟩ := command_outcome [.ack] _ he nofun (doAckSafe_firstBad (s := accepted h s) hr ht hb)
      (only_setAck _ _).mono (by decide) (.inr fun i => (unitCond_congr hcounted.mono rfl i).symm)
    exact ⟨_, rfl, d.done, d.prof.trans (cancelUnlock_prof_congr rfl), d.rest.same .ack⟩

/-- Settles O24: the command's rule is an `escalate` (`escalated_escalate`), to which the port adds its answer. -/
theorem secondBadTokenEscalates : Obligations.SecondBadTokenEscalates := by
  intro h tok r s he hr ht hb
  have hrule := only_escalate ((accepted h s).setAck { s.ack with req := some { r with bad := false } })
  obtain ⟨t, rfl, d⟩ := command_outcome (.src :: supParts) _ he nofun (doAckSafe_secondBad (s := accepted h s) hr ht hb)
    (.trans (only_setAck _ _).mono hrule.mono) (by decide) (.inl (by decide))
  have hprof := d.prof
  obtain ⟨hanswered, hflags, -⟩ := d.done
  refine ⟨_, rfl, hanswered, hflags, ?src, ?step, fun hl => ?store⟩
  case src =>
    have hsrc : (escalate ((accepted h s).setAck { s.ack with req := some { r with bad := false } })).src = s.src :=
      hrule.same .src
    rw [← hsrc]
    exact d.srcf
  case step =>
    refine escalated_of_requestChanged (p := (accepted h s).port) ((escalated_escalate _).answered d.rest fun hl => ?_)
    rw [hprof]
    exact congrArg State.prof (cancelUnlock_escalate hl)
  case store =>
    rw [unlockCancelled, hprof]
    exact cancelUnlock_prof_congr (escalate_prof (s := (accepted h s).setAck { s.ack with req := some { r with bad := false } }) hl)

/-! ### A due deadline -/

theorem deadlineDue_of_due {r : AckReq} {d : Tick} {s : State} (hr : s.ack.req = some r) (hd : r.deadline = some d)
    (hdue : isDue s.now d = true) : deadlineDue s = true := by
  simp only [deadlineDue, hr, hd, hdue]

/-- Settles O45: categories 2 and 3 end the request and `escalate`; the end of the stage adds nCRIT. -/
theorem deadlineExpiryEscalates : Obligations.DeadlineExpiryEscalates := by
  intro r d s hrun hs hr hd hdue
  have hstep : stepDeadline s = escalate (s.setAck { s.ack with req := none }) :=
    if_pos ⟨hs, deadlineDue_of_due hr hd hdue⟩
  have hframe := only_escalate (s.setAck { s.ack with req := none })
  refine ⟨_, congrArg Host.Outcome.next (inStageD_running hrun), ?_⟩
  rw [hstep]
  refine ⟨rfl, hframe.same .port, hframe.same .src, hframe.same .attn, ?_, fun hl => ?_⟩
  · exact escalated_of_requestChanged (p := s.port) ((escalated_escalate _).answered (only_refreshCrit _).mono fun _ => rfl)
  · exact escalate_prof (s := s.setAck { s.ack with req := none }) hl

end Sys2Proof.Machine
end

section
/-!
PROOF. LOCKDOWN and the sticky-lockdown flag (`LockdownKept`) under the operations of the Supervisor, dispatch and the steps of
Stages B to D.
-/

namespace Sys2Proof.Machine

set_option Elab.async false

/-! ### LOCKDOWN and its flag from one state to the next -/

/-- From `s` to `t` LOCKDOWN is not left, with its level and its episode, the sticky flag is not cleared, and it is set only with an
entry into LOCKDOWN (R110, R111, R112, R113). -/
structure LockdownKept (s t : State) : Prop where
  held : s.sup.state = .lockdown →
    t.sup.state = .lockdown ∧ t.ack.level = s.ack.level ∧ t.sup.episode = s.sup.episode
  sticky : s.ret.sticky = true → t.ret.sticky = true
  entered : s.ret.sticky = false → t.ret.sticky = true → t.sup.state = .lockdown

theorem LockdownKept.refl (s : State) : LockdownKept s s :=
  ⟨fun h => ⟨h, rfl, rfl⟩, id, fun h h' => nomatch h.symm.trans h'⟩

/-- A flag that one of two steps sets was set with LOCKDOWN, and the other step does not leave it. -/
theorem LockdownKept.trans {s t u : State} (h1 : LockdownKept s t) (h2 : LockdownKept t u) : LockdownKept s u where
  held hs := by
    obtain ⟨ht, hlevel, hepisode⟩ := h1.held hs
    obtain ⟨hu, hlevel', hepisode'⟩ := h2.held ht
    exact ⟨hu, hlevel'.trans hlevel, hepisode'.trans hepisode⟩
  sticky hs := h2.sticky (h1.sticky hs)
  entered hs hu := by
    cases ht : t.ret.sticky
    · exact h2.entered ht hu
    · exact (h2.held (h1.entered hs ht)).1

/-- Outside LOCKDOWN a change that leaves the flag alone. -/
theorem LockdownKept.outside {s t : State} (hs : s.sup.state ≠ .lockdown) (hr : t.ret.sticky = s.ret.sticky) :
    LockdownKept s t :=
  ⟨fun h => absurd h hs, hr.trans, fun h h' => nomatch h.symm.trans (hr.symm.trans h')⟩

/-- A step that in LOCKDOWN does nothing, and elsewhere leaves the retained domain alone. -/
theorem LockdownKept.of_guard {l : List Part} {s t : State} (ho : onlyParts l s t) (hg : s.sup.state = .lockdown → t = s)
    (hl : decide (Part.ret ∈ l) = false := by decide) : LockdownKept s t := by
  by_cases hs : s.sup.state = .lockdown
  · rw [hg hs]
    exact .refl s
  · exact .outside hs (congrArg Retained.sticky (ho.same .ret hl))

/-- A change of parts that hold neither LOCKDOWN, nor the level, nor the flag. -/
theorem LockdownKept.of_only {l : List Part} {s t : State} (ho : onlyParts l s t)
    (hl : (l.all (fun p => decide (p ∉ ([.sup, .ack, .ret] : List Part)))) = true := by decide) : LockdownKept s t := by
  have hs : t.sup = s.sup := ho.same_of_avoids hl (p := .sup) (by simp)
  have ha : t.ack = s.ack := ho.same_of_avoids hl (p := .ack) (by simp)
  have hr : t.ret = s.ret := ho.same_of_avoids hl (p := .ret) (by simp)
  exact ⟨fun h => ⟨(congrArg Supervisor.state hs).trans h, congrArg AckUnit.level ha, congrArg Supervisor.episode hs⟩,
    (congrArg Retained.sticky hr).trans, fun h h' => nomatch h.symm.trans ((congrArg Retained.sticky hr).symm.trans h')⟩

theorem LockdownKept.ite {s t u : State} (c : Prop) [Decidable c] (h1 : c → LockdownKept s t) (h2 : ¬ c → LockdownKept s u) :
    LockdownKept s (if c then t else u) := by
  split
  · exact h1 ‹_›
  · exact h2 ‹_›

theorem LockdownKept.foldl {α : Type} {f : State → α → State} (h : ∀ s a, LockdownKept s (f s a)) (xs : List α) (s : State) :
    LockdownKept s (xs.foldl f s) := by
  induction xs generalizing s with
  | nil => exact .refl s
  | cons a xs ih => exact (h s a).trans (ih (f s a))

theorem lockdownKept_runSteps {fs : List (State → State)} (h : ∀ f ∈ fs, ∀ s, LockdownKept s (f s)) (s : State) :
    LockdownKept s (runSteps fs s) := by
  induction fs generalizing s with
  | nil => exact .refl s
  | cons f fs ih => exact (h f (by simp) s).trans (ih (fun g hg => h g (by simp [hg])) (f s))

/-! ### The Supervisor -/

/-- Entries leave the Alarm List; only from ALERT does that change the state (R86). -/
theorem lockdownKept_dropAlarms (g : Alarm → Bool) (s : State) : LockdownKept s (dropAlarms g s) := by
  by_cases hs : s.sup.state = .lockdown
  · rw [dropAlarms_kept fun h => nomatch hs.symm.trans h.1]
    exact ⟨fun _ => ⟨hs, rfl, rfl⟩, id, fun _ _ => hs⟩
  · exact .outside hs (congrArg Retained.sticky ((only_dropAlarms g s).same .ret))

/-- Entry into LOCKDOWN is what sets the flag (R111, R113). -/
theorem lockdownKept_enterLockdown {s : State} (hs : s.sup.state ≠ .lockdown) : LockdownKept s (enterLockdown s) := by
  obtain ⟨hsup, -, -, hret⟩ := lockdownEntered_enterLockdown s
  exact ⟨fun h => absurd h hs, fun _ => by rw [hret], fun _ _ => by rw [hsup]⟩

/-- An escalation step is taken outside LOCKDOWN, and its last action enters it (R106, R107, R108). -/
theorem lockdownKept_escalate {s : State} (hs : s.sup.state ≠ .lockdown) : LockdownKept s (escalate s) := by
  have hrec : LockdownKept s (stepRecorded s) := .outside hs rfl
  rw [escalate_eq]
  refine hrec.trans ?_
  unfold escalationAction
  split
  · exact .refl _
  · exact .outside hs rfl
  · exact .outside hs (congrArg Retained.sticky ((only_escalationPulse (stepRecorded s)).same .ret))
  · exact lockdownKept_enterLockdown hs

theorem lockdownKept_acknowledge {s : State} (hs : s.sup.state ≠ .lockdown) (token : Byte) :
    LockdownKept s (acknowledge token s).2 := by
  have hack (a : AckUnit) : LockdownKept s (s.setAck a) := .outside hs rfl
  unfold acknowledge
  split
  · exact .refl s
  · split
    · exact .outside hs rfl
    · split
      · exact (hack _).trans (lockdownKept_escalate hs)
      · exact hack _

/-! ### Dispatch -/

/-- A dispatch in NORMAL or ALERT leaves the retained domain alone (R82). -/
theorem dispatchCalm_ret (o : Occ) (s : State) : (dispatchCalm o s).ret = s.ret := by
  have hinto (exhausted : Bool) : (enterSafe o.plan o.src (raisedInto exhausted o s)).ret = s.ret :=
    Eq.trans ((only_enterSafe _ _ _).same .ret) ((only_raisedInto exhausted o s).same .ret)
  have hlisted : (alarmListed o s).ret = s.ret := (only_alarmListed o s).same .ret
  cases hc : o.cls with
  | notice => rw [dispatchCalm, hc, writeRec_ret]
  | critical => rw [dispatchCalm_critical hc, hinto]
  | alarm =>
    by_cases hroom : s.sup.alarms.length < 8
    · rw [dispatchCalm_alarm hc hroom]
      split
      · rw [changeState_ret, hlisted]
      · exact hlisted
    · rw [dispatchCalm_exhausted hc (Nat.not_lt.mp hroom), hinto]

/-- A dispatch in SAFE: a compound fault escalates what the merge has left (R83, R105). -/
theorem lockdownKept_dispatchSafe {s : State} (hs : s.sup.state = .safe) (o : Occ) : LockdownKept s (dispatchSafe o s) := by
  have hne : s.sup.state ≠ .lockdown := by simp [hs]
  cases hc : o.cls with
  | notice => rw [dispatchSafe, hc]; exact .of_only (only_writeRec _ s)
  | alarm =>
    rw [dispatchSafe, hc]
    exact .of_only (.trans (only_abortSelftest s).mono (only_writeRec _ _).mono : onlyParts [.st, .jrn] _ _)
  | critical =>
    have hself : (abortSelftest s).sup = s.sup := (only_abortSelftest s).same .sup
    have hasked : onlyParts [.ack, .jrn, .nv, .prof, .free] (mergedInSafe o (abortSelftest s))
        (abortSession (requestedInSafe o (abortSelftest s))) :=
      .trans (only_requestedInSafe o _).mono (only_abortSession _).mono
    have hall : onlyParts [.st, .sup, .out, .jrn, .ack, .nv, .prof, .free] s
        (abortSession (requestedInSafe o (abortSelftest s))) :=
      .trans (.trans (only_abortSelftest s).mono (only_mergedInSafe o _).mono) hasked.mono
    have hmerged : LockdownKept s (abortSession (requestedInSafe o (abortSelftest s))) :=
      .outside hne (congrArg Retained.sticky (hall.same .ret))
    have hmergedState : (mergedInSafe o (abortSelftest s)).sup.state = (abortSelftest s).sup.state := rfl
    have hstate : (abortSession (requestedInSafe o (abortSelftest s))).sup.state = s.sup.state := by
      rw [hasked.same .sup, hmergedState, hself]
    rw [← dispatch_safe hs, dispatch_mergeInSafe hs hc]
    exact .ite _ (fun _ => hmerged.trans (lockdownKept_escalate (hstate ▸ hne))) (fun _ => hmerged)

/-- A dispatch in LOCKDOWN only records (R84). -/
theorem lockdownKept_dispatch (o : Occ) (s : State) : LockdownKept s (dispatch o s) := by
  unfold dispatch
  split
  case h_1 hs => exact .outside (by simp [hs]) (congrArg Retained.sticky (dispatchCalm_ret o s))
  case h_2 hs => exact .outside (by simp [hs]) (congrArg Retained.sticky (dispatchCalm_ret o s))
  case h_3 hs => exact lockdownKept_dispatchSafe hs o
  case h_4 => exact .of_only (only_writeRec _ s)
  all_goals exact .refl s

/-! ### Stages A to C -/

theorem lockdownKept_unitSteps (x : SupState) (inp : TickInputs) : ∀ f ∈ unitSteps x inp, ∀ s, LockdownKept s (f s) :=
  fun f hf s => .of_only (only_unitSteps x inp f hf s)

theorem lockdownKept_stageA (x : SupState) (inp : TickInputs) (s : State) : LockdownKept s (stageA x inp s) :=
  .of_only (only_stageA x inp s)

theorem lockdownKept_clearEffects (i : SrcId) (s : State) : LockdownKept s (clearEffects i s) :=
  .trans (.of_only (only_writeRec _ s)) (lockdownKept_dropAlarms _ _)

theorem lockdownKept_sourceStep (acc : State × List Occ) (i : SrcId) : LockdownKept acc.1 (sourceStep acc i).1 := by
  unfold sourceStep
  simp only []
  split
  · exact .of_only (only_setSrc _ _)
  · exact .of_only (only_setSrc _ _)
  · exact .trans (.of_only (only_setSrc _ _)) (lockdownKept_clearEffects i _)

theorem lockdownKept_sourceFold (l : List SrcId) (acc : State × List Occ) :
    LockdownKept acc.1 (l.foldl sourceStep acc).1 := by
  induction l generalizing acc with
  | nil => exact .refl _
  | cons i l ih => exact (lockdownKept_sourceStep acc i).trans (ih _)

theorem lockdownKept_stageB (s : State) : LockdownKept s (stageB s).1 :=
  .trans (lockdownKept_sourceFold _ (s, [])) (.of_only (only_setFl _ _))

theorem lockdownKept_dispatches (occs : List Occ) (s : State) : LockdownKept s (occs.foldl (fun u o => dispatch o u) s) :=
  .foldl (fun u o => lockdownKept_dispatch o u) occs s

theorem lockdownKept_stageBC (x : SupState) (s : State) : LockdownKept s (stageBC x s) :=
  .ite _ (fun _ => .trans (.trans (lockdownKept_stageB s) (lockdownKept_dispatches _ _)) (.of_only (only_refreshCrit _)))
    (fun _ => .refl s)

/-! ### Stage D, categories 1 to 7 -/

/-- Only an alarm in ALERT expires (R88). -/
theorem lockdownKept_stepExpiry (s : State) : LockdownKept s (stepExpiry s) := by
  unfold stepExpiry
  split
  · exact .refl s
  · refine .ite _ (fun hc => .outside (by simp [hc.1]) ?_) (fun _ => .refl s)
    exact congrArg Retained.sticky ((only_enterSafe _ _ (writeRec _ s)).same .ret)

theorem lockdownKept_stepDeadline (s : State) : LockdownKept s (stepDeadline s) := by
  refine .ite _ (fun hc => ?_) (fun _ => .refl s)
  have hs : s.sup.state ≠ .lockdown := by simp [hc.1]
  have hended : LockdownKept s (s.setAck { s.ack with req := none }) := .outside hs rfl
  exact hended.trans (lockdownKept_escalate hs)

theorem lockdownKept_stepPulseStart (s : State) : LockdownKept s (stepPulseStart s) :=
  .of_guard (only_stepPulseStart s) fun h => by unfold stepPulseStart; split <;> simp [h]

theorem lockdownKept_stepPulseEnd (s : State) : LockdownKept s (stepPulseEnd s) :=
  .of_guard (only_stepPulseEnd s) fun h => by unfold stepPulseEnd; split <;> simp [h]

theorem lockdownKept_stepCut (s : State) : LockdownKept s (stepCut s) :=
  .of_guard (only_stepCut s) fun h => by unfold stepCut; split <;> simp [h]

theorem lockdownKept_stepActions (s : State) : LockdownKept s (stepActions s) :=
  .trans (.trans (lockdownKept_stepPulseEnd s) (lockdownKept_stepPulseStart _)) (lockdownKept_stepCut _)

theorem lockdownKept_stepDwell (s : State) : LockdownKept s (stepDwell s) :=
  .of_guard (only_stepDwell s) fun h => by unfold stepDwell; split <;> simp [h]

theorem lockdownKept_stepEpMin (s : State) : LockdownKept s (stepEpMin s) := .of_only (only_stepEpMin s)

theorem lockdownKept_stepAutoRelease (s : State) : LockdownKept s (stepAutoRelease s) :=
  .of_guard (only_stepAutoRelease s) fun h => by simp [stepAutoRelease, h]

/-! ### Stage D, categories 8 and 9 -/

/-- The end of INIT enters LOCKDOWN for a flag already set, and leaves the flag alone (R113, R168). -/
theorem lockdownKept_endInit {s : State} (hs : s.sup.state = .init) : LockdownKept s (endInit s) :=
  .outside (by simp [hs]) (congrArg Retained.sticky ((only_endInitKeeping s).same .ret))

theorem lockdownKept_afterRun (s : State) : LockdownKept s (afterRun s) :=
  .ite _ (fun hc => lockdownKept_endInit hc.1) (fun _ => .refl s)

theorem lockdownKept_stepSelftest (f : BitVec 8) (n : Nat) (s : State) : LockdownKept s (stepSelftest f n s) := by
  have hst (x : SelfTest) : LockdownKept s (s.setSt x) := .of_only (only_setSt s x)
  unfold stepSelftest completeSelftest
  split
  · exact .ite _ (fun _ => .ite _ (fun _ => (hst _).trans (lockdownKept_afterRun _))
      (fun _ => .ite _ (fun _ => (hst _).trans (lockdownKept_afterRun _)) (fun _ => hst _))) (fun _ => .refl s)
  all_goals exact .refl s

theorem lockdownKept_nvRequest (op : NvOp) (s : State) : LockdownKept s (nvRequest op s) := .of_only (only_nvRequest op s)

theorem lockdownKept_nvFinish (s : State) : LockdownKept s (nvFinish s) := .of_only (only_nvFinish s)

theorem lockdownKept_stepInitBegin (s : State) : LockdownKept s (stepInitBegin s) :=
  .ite _ (fun _ => .trans (.of_only (only_setClk s _)) (lockdownKept_nvRequest _ _)) (fun _ => .refl s)

theorem lockdownKept_completeLoad (s : State) : LockdownKept s (completeLoad s) := by
  have hloaded : LockdownKept s (nvFinish (s.setProf (loadBanks s.prof))) :=
    .trans (.of_only (only_setProf s _)) (lockdownKept_nvFinish _)
  refine .ite _ (fun _ => hloaded.trans ?_) (fun _ => hloaded)
  exact .trans (.of_only (only_setClk _ _)) (lockdownKept_nvRequest _ _)

theorem lockdownKept_afterArchive {s : State} (hs : s.sup.state = .init) : LockdownKept s (afterArchive s) :=
  .ite _ (fun _ => .trans (.of_only (only_setClk s _)) (.of_only (only_setSt _ _))) (fun _ => lockdownKept_endInit hs)

theorem lockdownKept_completeArchWrite (e : ArchEntry) (s : State) : LockdownKept s (completeArchWrite e s) := by
  have hwritten : LockdownKept s (nvFinish (s.setArch (archStore e s.arch))) :=
    .trans (.of_only (only_setArch s _)) (lockdownKept_nvFinish _)
  refine .ite _ (fun hc => hwritten.trans ?_) (fun _ => hwritten)
  exact .trans (.of_only (only_setArch _ _)) (lockdownKept_afterArchive hc.1)

theorem lockdownKept_completeNv (s : State) : LockdownKept s (completeNv s) := by
  unfold completeNv
  split
  · exact .refl s
  · exact lockdownKept_completeLoad s
  · exact lockdownKept_completeArchWrite _ s
  · exact .of_only (only_completeErase s)
  · exact .of_only (only_completeCommit _ _ _ s)

theorem lockdownKept_stepNv (done : Bool) (s : State) : LockdownKept s (stepNv done s) := by
  unfold stepNv
  split
  · exact .refl s
  · exact .ite _ (fun _ => lockdownKept_completeNv s) (fun _ => .refl s)

theorem lockdownKept_finishOp (wanted : NvOp → Bool) (s : State) : LockdownKept s (finishOp wanted s) := by
  unfold finishOp
  split
  · exact .refl s
  · exact .ite _ (fun _ => lockdownKept_stepNv true s) (fun _ => .refl s)

theorem lockdownKept_stepUnlock (s : State) : LockdownKept s (stepUnlock s) := .of_only (only_stepUnlock s)

theorem lockdownKept_stepSessionLimit (s : State) : LockdownKept s (stepSessionLimit s) := .of_only (only_stepSessionLimit s)

theorem lockdownKept_stepWake (s : State) : LockdownKept s (stepWake s) :=
  .of_guard (only_stepWake s) fun h => by simp [stepWake, h]

theorem lockdownKept_stepWakingEnd (s : State) : LockdownKept s (stepWakingEnd s) :=
  .of_guard (only_stepWakingEnd s) fun h => by unfold stepWakingEnd; split <;> simp [h]

/-- Every step of Stage D (R72). -/
theorem lockdownKept_timerSteps (x : SupState) (inp : TickInputs) : ∀ f ∈ timerSteps x inp, ∀ s, LockdownKept s (f s) := by
  intro f hf s
  rcases List.mem_append.mp hf with hm | hm
  · unfold safetySteps at hm
    split at hm
    · simp only [List.mem_cons, List.not_mem_nil, or_false] at hm
      obtain rfl | rfl | rfl | rfl | rfl | rfl := hm
      · exact lockdownKept_stepExpiry s
      · exact lockdownKept_stepDeadline s
      · exact lockdownKept_stepActions s
      · exact lockdownKept_stepDwell s
      · exact lockdownKept_stepEpMin s
      · exact .ite _ (fun _ => lockdownKept_stepAutoRelease s) (fun _ => .refl s)
    · exact nomatch hm
  · simp only [deviceSteps, List.mem_cons, List.not_mem_nil, or_false] at hm
    obtain rfl | rfl | rfl | rfl | rfl | rfl | rfl := hm
    · exact lockdownKept_stepSelftest _ _ s
    · exact lockdownKept_stepInitBegin s
    · exact lockdownKept_stepWake s
    · exact lockdownKept_stepWakingEnd s
    · exact lockdownKept_stepUnlock s
    · exact lockdownKept_stepSessionLimit s
    · exact lockdownKept_stepNv _ s

theorem lockdownKept_stageD (x : SupState) (inp : TickInputs) (s : State) : LockdownKept s (stageD x inp s) :=
  .trans (lockdownKept_runSteps (lockdownKept_timerSteps x inp) s) (.of_only (only_refreshCrit _))

/-! ### A batch, whole or abandoned -/

theorem lockdownKept_runStages (x : SupState) (inp : TickInputs) (s : State) : LockdownKept s (runStages x inp s) :=
  (((lockdownKept_stageA x inp s).trans (lockdownKept_stageBC x _)).trans (lockdownKept_stageD x inp _)).trans
    (.of_only (.trans (only_stageE _).mono (only_stageF x _).mono : onlyParts [.out, .attn, .link] _ _))

theorem lockdownKept_batchStart (inp : TickInputs) (s : State) : LockdownKept s (batchStart inp s) :=
  .of_only (only_batchStart inp s)

/-- A batch up to any point in it (R165). -/
theorem lockdownKept_runUntil (x : SupState) (inp : TickInputs) (p : BatchPoint) (s : State) :
    LockdownKept s (runUntil x inp p s) := by
  have hA := lockdownKept_stageA x inp s
  have hBC := hA.trans (lockdownKept_stageBC x _)
  cases p with
  | units n =>
    exact lockdownKept_runSteps (fun f hf => lockdownKept_unitSteps x inp f (List.mem_of_mem_take hf)) s
  | records n => exact hA.trans (.ite _ (fun _ => lockdownKept_sourceFold _ (_, [])) (fun _ => .refl _))
  | dispatches n =>
    exact hA.trans (.ite _ (fun _ => (lockdownKept_stageB _).trans (lockdownKept_dispatches _ _)) (fun _ => .refl _))
  | timers n =>
    exact hBC.trans (lockdownKept_runSteps (fun f hf => lockdownKept_timerSteps x inp f (List.mem_of_mem_take hf)) _)
  | outputs => exact (hBC.trans (lockdownKept_stageD x inp _)).trans (.of_only (only_stageE _))

theorem lockdownKept_abandonBatch (inp : TickInputs) (p : BatchPoint) (s : State) :
    LockdownKept s (abandonBatch inp p s) :=
  (lockdownKept_batchStart inp s).trans (lockdownKept_runUntil _ inp p _)

theorem lockdownKept_tickBatch {inp : TickInputs} (hc : inp.cut = none) (s : State) : LockdownKept s (tickBatch inp s) := by
  unfold tickBatch
  rw [hc]
  exact .ite _ (fun _ => (lockdownKept_batchStart inp s).trans (lockdownKept_runStages _ inp _)) (fun _ => .refl s)

end Sys2Proof.Machine
end

section
/-!
PROOF. LOCKDOWN and the sticky-lockdown flag under the commands, the host port and the resets, and the two statements: only a reset
leads out of LOCKDOWN, and the flag is cleared only by a power-on reset and set only with LOCKDOWN.
-/

namespace Sys2Proof.Machine

set_option Elab.async false

/-! ### What the executing rules can change -/

theorem only_writeEffect (addr : Byte) (x : Word) (s : State) :
    onlyParts [.sel, .arch, .prof] s (writeEffect addr x s) := by
  unfold writeEffect
  split
  case h_5 => exact .trans (only_setSel _ _).mono (only_setArch _ _).mono
  case h_10 =>
    unfold writeStaging
    split
    · exact (only_setProf _ _).mono
    all_goals exact .refl _ s
  all_goals exact (only_setSel _ _).mono

theorem only_doInject (arg : BitVec 24) (s : State) : onlyParts [.src] s (doInject arg s).st := by
  unfold doInject
  simp only []
  split
  · exact only_setSrc _ _
  · exact .refl _ s

theorem only_doPurgeNode (arg : BitVec 24) (s : State) : onlyParts [.link] s (doPurgeNode arg s).st := by
  unfold doPurgeNode
  simp only []
  split
  · exact only_setLink _ _
  · exact .refl _ s

theorem only_doService (arg : BitVec 24) (s : State) : onlyParts [.wd] s (doService arg s).st := by
  unfold doService
  split
  · exact .refl _ s
  · exact only_setWd _ _

theorem only_lostMarker (s : State) : onlyParts [.jrn] s (lostMarker s) :=
  .ite _ (.refl _ s) (.trans (only_writeRec _ s) (only_setJrn _ _))

theorem only_doPopJournal (s : State) : onlyParts [.jrn] s (doPopJournal s).st := by
  unfold doPopJournal
  split
  · exact .refl _ s
  · exact .trans (only_setJrn _ _) (only_lostMarker _)

theorem only_doPeekJournal (s : State) : onlyParts [.jrn] s (doPeekJournal s).st := by
  unfold doPeekJournal
  split
  · exact .refl _ s
  · exact only_setJrn _ _

theorem only_doClearArchive (s : State) : onlyParts [.nv, .prof] s (doClearArchive s).st := by
  unfold doClearArchive
  split
  · exact .refl _ s
  · exact only_nvRequest _ s

theorem only_openNow (s : State) : onlyParts [.prof, .jrn, .st] s (openNow s) :=
  .trans (.trans (only_setProf _ _).mono (only_writeRec _ _).mono) (only_abortSelftest _).mono

theorem only_doOpenSession (arg : BitVec 24) (s : State) : onlyParts [.prof, .jrn, .st] s (doOpenSession arg s).st := by
  unfold doOpenSession
  split
  · exact .refl _ s
  · split
    · exact .refl _ s
    · split
      · exact (only_setProf _ _).mono
      · exact .refl _ s
    · split
      · exact only_openNow s
      · exact (only_closeSession s).mono

theorem only_doCloseDiscard (s : State) : onlyParts [.prof, .jrn] s (doCloseDiscard s).st := by
  unfold doCloseDiscard
  split
  · exact .refl _ s
  · exact .trans (only_writeRec _ s).mono (only_closeSession _).mono

theorem only_doCommit (s : State) : onlyParts [.nv, .prof] s (doCommit s).st := by
  unfold doCommit
  split
  · split
    · exact .refl _ s
    · exact .trans (only_setProf _ _).mono (only_nvRequest _ _)
  all_goals exact .refl _ s

theorem only_doRunSelftest (s : State) : onlyParts [.st] s (doRunSelftest s).st := by
  unfold doRunSelftest
  split
  · exact .refl _ s
  · exact only_setSt _ _

/-! ### The commands -/

theorem lockdownKept_doClearSource (arg : BitVec 24) (s : State) : LockdownKept s (doClearSource arg s).st := by
  have hcleared (x : Vector SrcRec 56) : LockdownKept s (s.setSrc x) := .of_only (only_setSrc s x)
  unfold doClearSource
  simp only []
  split
  · exact hcleared _
  all_goals
    split
    · exact .refl s
    · exact (hcleared _).trans (lockdownKept_clearEffects _ _)

theorem lockdownKept_doAckSafe {s : State} (hs : s.sup.state ≠ .lockdown) (arg : BitVec 24) :
    LockdownKept s (doAckSafe arg s).st := by
  have hack := lockdownKept_acknowledge hs (argLow arg)
  unfold doAckSafe
  split <;> rename_i ha <;> rw [ha] at hack
  · exact .refl s
  all_goals exact hack

theorem lockdownKept_doReleaseSafe {s : State} (hs : s.sup.state ≠ .lockdown) : LockdownKept s (doReleaseSafe s).st := by
  unfold doReleaseSafe
  split
  · exact .refl s
  · exact .outside hs (congrArg Retained.sticky ((only_release s).same .ret))

theorem lockdownKept_doCloseApply {s : State} (hs : s.sup.state ≠ .lockdown) : LockdownKept s (doCloseApply s).st := by
  unfold doCloseApply
  split
  · split
    · exact .refl s
    · exact .outside hs (congrArg Retained.sticky ((only_applyProfile _ s).same .ret))
  all_goals exact .refl s

theorem lockdownKept_doEnterStandby {s : State} (hs : s.sup.state ≠ .lockdown) : LockdownKept s (doEnterStandby s).st := by
  have hentered : LockdownKept s (enterStandby s) := .outside hs (congrArg Retained.sticky ((only_enterStandby s).same .ret))
  unfold doEnterStandby
  split
  · exact .refl s
  · split
    · exact .refl s
    · split
      · exact .refl s
      · exact hentered

/-- A reset other than a power-on reset keeps the flag (R165, R166). -/
theorem beginReset_sticky {kind : ResetKind} (h : kind ≠ .por) (s : State) : (beginReset kind s).ret.sticky = s.ret.sticky := by
  cases kind with
  | por => exact absurd rfl h
  | pin => rfl
  | soft => rfl

theorem lockdownKept_doSoftReset {s : State} (hs : s.sup.state ≠ .lockdown) : LockdownKept s (doSoftReset s).st := by
  unfold doSoftReset
  split
  · exact .refl s
  · exact .outside hs (beginReset_sticky (by decide) s)

/-- The commands that can end a state of the Supervisor are not permitted in LOCKDOWN (R15, R112); of the others only CLEAR_SOURCE
reaches the Supervisor at all, and takes no more than alarms from it. -/
theorem lockdownKept_runCommand {c : Cmd} {s : State} (hp : permitted c s.sup.state (sessionOpen s) = true)
    (arg : BitVec 24) : LockdownKept s (runCommand c arg s).st := by
  have hcalm (h : permitted c .lockdown (sessionOpen s) = false) : s.sup.state ≠ .lockdown :=
    by
    intro hs
    rw [hs, h] at hp
    exact nomatch hp
  cases c with
  | nop => exact .refl s
  | readReg => exact .of_only (only_readEffect _ s)
  | writeReg => exact .of_only (only_writeEffect _ _ s)
  | clearSource => exact lockdownKept_doClearSource arg s
  | inject => exact .of_only (only_doInject arg s)
  | raiseSw => exact .of_only (only_setSw s _)
  | lowerSw => exact .of_only (only_setSw s _)
  | purgeNode => exact .of_only (only_doPurgeNode arg s)
  | ackSafe => exact lockdownKept_doAckSafe (hcalm rfl) arg
  | releaseSafe => exact lockdownKept_doReleaseSafe (hcalm rfl)
  | service => exact .of_only (only_doService arg s)
  | popJournal => exact .of_only (only_doPopJournal s)
  | peekJournal => exact .of_only (only_doPeekJournal s)
  | openSession => exact .of_only (only_doOpenSession arg s)
  | closeApply => exact lockdownKept_doCloseApply (hcalm rfl)
  | closeDiscard => exact .of_only (only_doCloseDiscard s)
  | commitProfile => exact .of_only (only_doCommit s)
  | resetCounts => exact .of_only (only_setSrc s _)
  | clearArchive => exact .of_only (only_doClearArchive s)
  | runSelftest => exact .of_only (only_doRunSelftest s)
  | enterStandby => exact lockdownKept_doEnterStandby (hcalm rfl)
  | wake => exact .outside (hcalm rfl) (congrArg Retained.sticky ((only_beginWaking s).same .ret))
  | softReset => exact lockdownKept_doSoftReset (hcalm rfl)

/-! ### Frames -/

theorem only_storeResult (tag : BitVec 3) (res : Res) (data : BitVec 24) (s : State) :
    onlyParts [.port] s (storeResult tag res data s) :=
  .trans (only_setPort s _) (only_answer _ _ _ _)

theorem only_afterCommand (c : Cmd) (before s : State) :
    onlyParts [.prof, .src, .attn, .crit] s (afterCommand c before s) :=
  .trans (.trans (.trans (.ite _ (.refl _ s) (only_cancelUnlock s).mono) (only_copyChanged _ _).mono)
    (only_refreshAttn _).mono) (only_refreshCrit _).mono

theorem lockdownKept_execute {c : Cmd} {s : State} (hp : permitted c s.sup.state (sessionOpen s) = true)
    (tag : BitVec 3) (arg : BitVec 24) : LockdownKept s (execute tag c arg s) := by
  have hrule := lockdownKept_runCommand hp arg
  exact .ite _ (fun _ => hrule) fun _ =>
    (hrule.trans (.of_only (only_afterCommand c s _))).trans (.of_only (only_storeResult _ _ _ _))

theorem lockdownKept_judgeCommand (tag : BitVec 3) (c : Cmd) (arg : BitVec 24) (s : State) :
    LockdownKept s (judgeCommand tag c arg s) := by
  have hrejected (res : Res) : LockdownKept s (rejectNew tag res s) := .of_only (only_rejectNew tag res s)
  exact .ite _ (fun _ => hrejected _) fun hp => .ite _ (fun _ => hrejected _) fun _ => .ite _ (fun _ => hrejected _) fun _ =>
    lockdownKept_execute (by simpa using hp) tag arg

theorem lockdownKept_processNew (f : RawFrame) (s : State) : LockdownKept s (processNew f s) := by
  have haccepted : LockdownKept s (acceptTag (frameTag f) s) := .of_only (only_setPort s _)
  unfold processNew
  split
  · exact haccepted.trans (.of_only (only_rejectNew _ _ _))
  · exact haccepted.trans (lockdownKept_judgeCommand _ _ _ _)

theorem lockdownKept_processFrame (f : RawFrame) (s : State) : LockdownKept s (processFrame f s) := by
  have hformat : onlyParts [.port] s (rejectFormat f s) := .trans (only_noteRej _ s) (only_answer _ _ _ _)
  refine .ite _ (fun _ => .of_only (only_countedRejection _ _ _ s)) fun _ => .ite _ (fun _ => .of_only hformat) fun _ => ?_
  split
  · exact lockdownKept_processNew f s
  · exact .of_only (only_retransmit s)
  · exact .of_only (only_countedRejection _ _ _ s)

theorem lockdownKept_onPort (start : FrameStart) (n : Nat) {process : State → State}
    (hp : ∀ u, LockdownKept u (process u)) (s : State) : LockdownKept s (onPort start n process s) := by
  have hshown (bits : List Bool) : LockdownKept s (showSdo bits s) := .of_only (only_showSdo bits s)
  refine .ite _ (fun _ => .refl s) fun _ => ?_
  split
  · exact .refl s
  · exact hshown _
  all_goals exact (hshown _).trans (hp _)

theorem lockdownKept_hostFrame (start : FrameStart) (f : RawFrame) (s : State) : LockdownKept s (hostFrame start f s) :=
  lockdownKept_onPort start 48 (lockdownKept_processFrame f) s

theorem lockdownKept_hostBits (start : FrameStart) (bits : List Bool) (s : State) :
    LockdownKept s (hostBits start bits s) :=
  .ite _ (fun _ => .refl s) fun _ => .ite _ (fun _ => lockdownKept_hostFrame _ _ s) fun _ =>
    lockdownKept_onPort _ _ (fun u => .of_only (only_countedRejection _ _ _ u)) s

theorem lockdownKept_commandFrame (x : FrameHead) (code : Byte) (arg : BitVec 24) (s : State) :
    LockdownKept s (commandFrame x code arg s) := lockdownKept_hostFrame _ _ s

/-! ### Every row but the resets -/

theorem lockdownKept_endReset (s : State) : LockdownKept s (endReset s) := by
  unfold endReset
  split
  · exact .trans (.of_only (only_setClk s _)) (.of_only (only_setPort _ _))
  all_goals exact .refl s

theorem lockdownKept_inBatch {f : State → State} {s : State} (h : LockdownKept s (f s)) : LockdownKept s (inBatch f s) :=
  .ite _ (fun _ => h) (fun _ => .refl s)

theorem lockdownKept_inStageD {f : State → State} {s : State} (h : LockdownKept s (f s)) : LockdownKept s (inStageD f s) :=
  lockdownKept_inBatch (f := fun u => refreshCrit (f u)) (h.trans (.of_only (only_refreshCrit _)))

/-- Every row that is no reset and in which none begins; the rows that carry a command frame are left to the port in one. -/
theorem exec_keepsLockdown {i : Instr} (hpor : i ≠ .por) (hpin : ∀ n, i ≠ .pinReset n)
    (hcut : ∀ inp, i = .tickBatch inp → inp.cut = none) (s : State) : ∃ t, exec i s = .next t ∧ LockdownKept s t := by
  cases i <;> refine ⟨_, rfl, ?_⟩
  case tickBatch inp => exact lockdownKept_tickBatch (hcut inp rfl) s
  case por => exact absurd rfl hpor
  case pinReset n => exact absurd rfl (hpin n)
  case resetEnd => exact lockdownKept_endReset s
  case oscillatorStart => exact .of_only (only_oscillatorStable s)
  case mainOscillatorStop => exact .of_only (only_oscillatorStops s)
  case rejLength start bits => exact lockdownKept_hostBits start bits s
  case rejCrc start f => exact lockdownKept_hostFrame start f s
  case rejFormat start f => exact lockdownKept_hostFrame start f s
  case qualification n => exact lockdownKept_inBatch (.of_only (only_qualifyLine n s))
  case lineRelease n => exact lockdownKept_inBatch (.of_only (only_releaseLine n s))
  case heartbeatLate n => exact lockdownKept_inBatch (.of_only (only_lateHeartbeat n s))
  case silent n => exact lockdownKept_inBatch (.of_only (only_silentNode n s))
  case beaconTimer => exact lockdownKept_inBatch (.of_only (only_beaconTimer s))
  case intake => exact lockdownKept_inBatch (.of_only (only_intakeOne s))
  case windowEvaluation => exact lockdownKept_inBatch (.of_only (only_stageClock true s))
  case missingReference => exact lockdownKept_inBatch (.of_only (only_missReference s))
  case settleAllowanceEnd => exact lockdownKept_inBatch (.of_only (only_compOne _ _ _ s))
  case mismatchQualified => exact lockdownKept_inBatch (.of_only (only_compOne _ _ _ s))
  case mismatchWithdrawn => exact lockdownKept_inBatch (.of_only (only_compOne _ _ _ s))
  case exchange => exact lockdownKept_inBatch (.of_only (only_exchangeNow s))
  case closedPhaseEnd => exact lockdownKept_inBatch (.of_only (only_closedEnds s))
  case watchdogLate => exact lockdownKept_inBatch (.of_only (only_openEnds s))
  case nvOperationBegin => exact lockdownKept_inBatch (.of_only (only_nvBegin s))
  case expiry => exact lockdownKept_inStageD (lockdownKept_stepExpiry s)
  case ackDeadlineExpiry => exact lockdownKept_inStageD (lockdownKept_stepDeadline s)
  case pulseStart => exact lockdownKept_inStageD (lockdownKept_stepPulseStart s)
  case pulseEnd => exact lockdownKept_inStageD (lockdownKept_stepPulseEnd s)
  case cut => exact lockdownKept_inStageD (lockdownKept_stepCut s)
  case dwellEnd => exact lockdownKept_inStageD (lockdownKept_stepDwell s)
  case epMinEnd => exact lockdownKept_inStageD (lockdownKept_stepEpMin s)
  case automaticRelease => exact lockdownKept_inStageD (lockdownKept_stepAutoRelease s)
  case selftestStepCompletion f n => exact lockdownKept_inStageD (lockdownKept_stepSelftest f n s)
  case profileLoadCompletion => exact lockdownKept_inStageD (lockdownKept_finishOp _ s)
  case archiveWriteCompletion => exact lockdownKept_inStageD (lockdownKept_finishOp _ s)
  case archiveErasureCompletion => exact lockdownKept_inStageD (lockdownKept_finishOp _ s)
  case commitCompletion => exact lockdownKept_inStageD (lockdownKept_finishOp _ s)
  case unlockWindowExpiry => exact lockdownKept_inStageD (lockdownKept_stepUnlock s)
  case sessionLimitExpiry => exact lockdownKept_inStageD (lockdownKept_stepSessionLimit s)
  case wakeRequest => exact lockdownKept_inStageD (lockdownKept_stepWake s)
  case wakingEnd => exact lockdownKept_inStageD (lockdownKept_stepWakingEnd s)
  case peerEventMessage b0 b1 b2 b3 => exact .of_only (onlyParts.foldl only_lrxLevel (b0 ++ b1 ++ b2 ++ b3) s)
  case startBitWake => exact .of_only (only_startBitWake s)
  case framingError => exact .of_only (only_setLink s _)
  case truncated => exact .of_only (only_setLink s _)
  case earlyRun => exact .of_only (only_setLink s _)
  case receiverReady => exact .of_only (only_setLink s _)
  case messageIntoFlight => exact .of_only (only_setLink s _)
  case messageLeavesFlight => exact .of_only (only_setLink s _)
  all_goals exact lockdownKept_commandFrame _ _ _ s

/-- A row that is no reset and in which none begins, from the state that it leads to. -/
theorem lockdownKept_of_exec {i : Instr} {s t : State} (hpor : i ≠ .por) (hpin : ∀ n, i ≠ .pinReset n)
    (hcut : ∀ inp, i = .tickBatch inp → inp.cut = none) (h : exec i s = .next t) : LockdownKept s t := by
  obtain ⟨u, hu, hkept⟩ := exec_keepsLockdown hpor hpin hcut s
  obtain rfl : u = t := Host.Outcome.next.inj (hu.symm.trans h)
  exact hkept

/-- Settles O56: every row that is no reset keeps LOCKDOWN with its level and its episode (`exec_keepsLockdown`). -/
theorem lockdownLeftOnlyByReset : Obligations.LockdownLeftOnlyByReset :=
  fun _ _ _ hs hpor hpin hcut h => (lockdownKept_of_exec hpor hpin hcut h).held hs

/-! ### The flag under the resets -/

theorem beginPinReset_sticky (s : State) : (beginPinReset s).ret.sticky = s.ret.sticky := by
  unfold beginPinReset
  split
  · rfl
  · exact beginReset_sticky (by decide) s

theorem pinResetOn_sticky (n : Nat) (s : State) : (pinResetOn n s).ret.sticky = s.ret.sticky := by
  have hdrawn : (drawBit s).2.ret.sticky = s.ret.sticky := congrArg Retained.sticky ((only_drawBit s).same .ret)
  unfold pinResetOn
  split
  · rfl
  · split
    · exact beginPinReset_sticky s
    · simp only []
      split
      · exact (beginPinReset_sticky _).trans hdrawn
      · exact hdrawn

/-- A batch that a reset abandons is what came before that reset, and then the reset (R165). -/
theorem tickBatch_abandoned {inp : TickInputs} {c : BatchCut} {s : State} (hr : s.clk.phase = .running)
    (hc : inp.cut = some c) : tickBatch inp s = beginReset (kindOfReset c.cause) (abandonBatch inp c.point s) := by
  simp [tickBatch, ticking, hr, hc]

/-- What O57 says of a row from `s` to `t`. -/
def stickyRow (i : Instr) (s t : State) : Prop :=
  (s.ret.sticky = true → i ≠ .por →
    (∀ inp p, i = .tickBatch inp → inp.cut ≠ some { cause := .supply, point := p }) → t.ret.sticky = true) ∧
  (s.ret.sticky = false → t.ret.sticky = true →
    t.sup.state = .lockdown ∨
      ∃ inp c, i = .tickBatch inp ∧ inp.cut = some c ∧ (abandonBatch inp c.point s).sup.state = .lockdown)

theorem LockdownKept.stickyRow {s t : State} (h : LockdownKept s t) (i : Instr) : stickyRow i s t :=
  ⟨fun hs _ _ => h.sticky hs, fun hs ht => .inl (h.entered hs ht)⟩

theorem stickyRow_of_sticky {s t : State} (h : t.ret.sticky = s.ret.sticky) (i : Instr) : stickyRow i s t :=
  ⟨fun hs _ _ => h.trans hs, fun hs ht => nomatch hs.symm.trans (h.symm.trans ht)⟩

/-- A power-on reset leaves no flag; a pin reset leaves the one of the abandoned batch, which was set with LOCKDOWN (R113, R165,
R166). -/
theorem stickyRow_abandoned {inp : TickInputs} {c : BatchCut} (hc : inp.cut = some c) (s : State) :
    stickyRow (.tickBatch inp) s (beginReset (kindOfReset c.cause) (abandonBatch inp c.point s)) := by
  have hkept := lockdownKept_abandonBatch inp c.point s
  obtain ⟨cause, point⟩ := c
  cases cause with
  | supply => exact ⟨fun _ _ hno => absurd hc (hno inp point rfl), fun _ ht => nomatch ht⟩
  | nrst =>
    have hpin : (beginReset .pin (abandonBatch inp point s)).ret.sticky = (abandonBatch inp point s).ret.sticky :=
      beginReset_sticky (by decide) _
    exact ⟨fun hs _ _ => hpin.trans (hkept.sticky hs),
      fun hs ht => .inr ⟨inp, ⟨.nrst, point⟩, rfl, hc, hkept.entered hs (hpin.symm.trans ht)⟩⟩

theorem stickyRow_tickBatch (inp : TickInputs) (s : State) : stickyRow (.tickBatch inp) s (tickBatch inp s) := by
  cases hc : inp.cut with
  | none => exact (lockdownKept_tickBatch hc s).stickyRow _
  | some c =>
    by_cases hr : s.clk.phase = .running
    · rw [tickBatch_abandoned hr hc]
      exact stickyRow_abandoned hc s
    · rw [tickBatch_notTicking hr]
      exact stickyRow_of_sticky rfl _

/-- Settles O57: the resets by what they keep of the retained domain (`beginReset_sticky`), a batch by whether a reset abandons it, and
every other row as for O56. -/
theorem stickyFlagOnlyByPorAndLockdown : Obligations.StickyFlagOnlyByPorAndLockdown := by
  intro i s t h
  show stickyRow i s t
  cases i
  case tickBatch inp =>
    obtain rfl : tickBatch inp s = t := Host.Outcome.next.inj h
    exact stickyRow_tickBatch inp s
  case por =>
    obtain rfl : beginReset .por s = t := Host.Outcome.next.inj h
    exact ⟨fun _ hpor => absurd rfl hpor, fun _ ht => nomatch ht⟩
  case pinReset n =>
    obtain rfl : pinResetOn n s = t := Host.Outcome.next.inj h
    exact stickyRow_of_sticky (pinResetOn_sticky n s) _
  all_goals exact (lockdownKept_of_exec (by nofun) (by nofun) (by nofun) h).stickyRow _

end Sys2Proof.Machine
end

section
/-!
PROOF. The Service Watchdog: what SERVICE makes of the answer in each phase, and the phases that run out in Stage A.
-/

namespace Sys2Proof.Machine

/-! ### The judgement of SERVICE -/

section
variable {c : WdCfg} {now due : Tick} {ans : Byte} {w : Watchdog}

theorem wdService_stopped (hp : w.phase = .off ∨ w.phase = .held) : wdService c now ans w = none := by
  rcases hp with hp | hp <;> simp only [wdService, wdJudge, hp]

/-- INITIAL: the right answer closes the phase, and a wrong one begins it again (R117). -/
theorem wdService_initial (hp : w.phase = .initial due) :
    wdService c now ans w = some (if ans = w.challenge ^^^ c.mask
      then (.first, { w with phase := wdClosed c now, challenge := nextChallenge w.challenge })
      else (.wrong, { phase := wdInitial c now, challenge := nextChallenge w.challenge
                      viol := satInc w.viol, last := .wrong })) := by
  by_cases ha : ans = w.challenge ^^^ c.mask <;> simp [wdService, wdJudge, hp, ha, expectedAnswer, wdViolation]

/-- CLOSED: the command is EARLY whatever its answer (R117). -/
theorem wdService_closed (hp : w.phase = .closed due) :
    wdService c now ans w = some (.early,
      { phase := wdClosed c now, challenge := nextChallenge w.challenge, viol := satInc w.viol, last := .early }) := by
  simp only [wdService, wdJudge, hp, wdViolation]

/-- OPEN: the right answer takes a violation back, a wrong one adds one, and either closes the phase (R117). -/
theorem wdService_opn (hp : w.phase = .opn due) :
    wdService c now ans w = some (if ans = w.challenge ^^^ c.mask
      then (.good, { w with phase := wdClosed c now, challenge := nextChallenge w.challenge, viol := satDec w.viol })
      else (.wrong, { phase := wdClosed c now, challenge := nextChallenge w.challenge
                      viol := satInc w.viol, last := .wrong })) := by
  by_cases ha : ans = w.challenge ^^^ c.mask <;> simp [wdService, wdJudge, hp, ha, expectedAnswer, wdViolation]

theorem wdJudge_challenge {r : WdOutcome × Watchdog} (h : wdJudge c now ans w = some r) :
    r.2.challenge = w.challenge := by
  unfold wdJudge at h
  simp only [] at h
  cases hp : w.phase <;> simp only [hp] at h
  case off => nomatch h
  case held => nomatch h
  case closed => exact Option.some.inj h ▸ rfl
  all_goals
    split at h <;> exact Option.some.inj h ▸ rfl

/-- Every SERVICE that is judged advances the challenge (R116). -/
theorem wdService_challenge {r : WdOutcome × Watchdog} (h : wdService c now ans w = some r) :
    r.2.challenge = nextChallenge w.challenge := by
  unfold wdService at h
  split at h
  case h_1 => nomatch h
  case h_2 hj => exact Option.some.inj h ▸ congrArg nextChallenge (wdJudge_challenge hj)

end

/-! ### The command SERVICE -/

theorem doService_refused {ans : Byte} {s : State} (hp : s.wd.phase = .off ∨ s.wd.phase = .held) :
    doService (ans.setWidth 24) s = refuse .wdNotRunning s := by
  simp only [doService, wdService_stopped hp]

theorem doService_judged {ans : Byte} {s : State} {r : WdOutcome × Watchdog}
    (hr : wdService s.prof.running.wd s.now ans s.wd = some r) :
    doService (ans.setWidth 24) s = okWith (serviceData r.1 r.2) (s.setWd r.2) := by
  simp only [doService, argLow_setWidth, hr]

theorem service_refused {h : FrameHead} {ans : Byte} {s : State} (he : executes .service h (ans.setWidth 24) s = true)
    (hp : s.wd.phase = .off ∨ s.wd.phase = .held) :
    ∃ t, exec (.service h (ans.setWidth 24)) s = .next t ∧ commandRefused .wdNotRunning h s t := by
  obtain ⟨t, ht, href, -⟩ := command_refused he nofun (doService_refused (s := accepted h s) hp)
  exact ⟨t, congrArg Host.Outcome.next ht, href⟩

/-- What the frame of a SERVICE judged as `r` leaves in `t`: the command is done, and the watchdog and the outcome byte are those
of `r` (R117). -/
structure Serviced (h : FrameHead) (s : State) (r : WdOutcome × Watchdog) (t : State) : Prop where
  done : commandDone [.wd, .src] h .ok
    ((wdPhaseCode t.wd.phase).setWidth 8 ++ t.wd.viol.setWidth 8 ++ (t.port.slot.data.extractLsb' 0 8)) s t
  unlock : unlockCancelled s t
  srcs : srcFollows s.src s t
  challenge : t.wd.challenge = nextChallenge s.wd.challenge
  wd : t.wd = r.2
  outcome : t.port.slot.data.extractLsb' 0 8 = wdOutcomeCode r.1

theorem service_serviced {h : FrameHead} {ans : Byte} {s : State} {r : WdOutcome × Watchdog}
    (he : executes .service h (ans.setWidth 24) s = true)
    (hr : wdService s.prof.running.wd s.now ans s.wd = some r) :
    ∃ t, exec (.service h (ans.setWidth 24)) s = .next t ∧ Serviced h s r t := by
  obtain ⟨t, ht, d⟩ := command_outcome [.wd, .src] _ he nofun (doService_judged (s := accepted h s) hr)
    (only_setWd _ _).mono (by decide) (.inl (by decide))
  have hwd : t.wd = r.2 := d.rest.same .wd
  have hdata : t.port.slot.data = serviceData r.1 r.2 := congrArg (·.slot.data) d.done.1
  have hout : t.port.slot.data.extractLsb' 0 8 = wdOutcomeCode r.1 := by rw [hdata, serviceData, extract_argOf]
  refine ⟨t, congrArg Host.Outcome.next ht, ?_, d.prof.trans (cancelUnlock_prof_congr rfl), d.srcf, ?_, hwd, hout⟩
  · rw [hout, hwd]
    exact d.done
  · rw [hwd, wdService_challenge hr]

/-- Settles O26: `service_refused` in OFF and HELD, and in each running phase its row of R117 under `service_serviced`. -/
theorem serviceByPhase : Obligations.ServiceByPhase := by
  intro h ans s he
  cases hp : s.wd.phase
  case off =>
    obtain ⟨t, ht, href⟩ := service_refused he (.inl hp)
    exact ⟨t, ht, fun _ => href, fun hoff => absurd rfl hoff, nofun, nofun, nofun⟩
  case held =>
    obtain ⟨t, ht, href⟩ := service_refused he (.inr hp)
    exact ⟨t, ht, fun _ => href, fun _ hheld => absurd rfl hheld, nofun, nofun, nofun⟩
  case initial =>
    obtain ⟨t, ht, d⟩ := service_serviced he (wdService_initial hp)
    refine ⟨t, ht, by simp, fun _ _ => ⟨d.done, d.unlock, d.srcs, d.challenge⟩, fun _ _ => ?_, nofun, nofun⟩
    rw [d.outcome, d.wd]
    split <;> exact ⟨rfl, rfl, rfl, rfl⟩
  case closed =>
    obtain ⟨t, ht, d⟩ := service_serviced he (wdService_closed hp)
    refine ⟨t, ht, by simp, fun _ _ => ⟨d.done, d.unlock, d.srcs, d.challenge⟩, nofun, fun _ _ => ?_, nofun⟩
    rw [d.outcome, d.wd]
    exact ⟨rfl, rfl, rfl, rfl⟩
  case opn =>
    obtain ⟨t, ht, d⟩ := service_serviced he (wdService_opn hp)
    refine ⟨t, ht, by simp, fun _ _ => ⟨d.done, d.unlock, d.srcs, d.challenge⟩, nofun, nofun, fun _ _ => ?_⟩
    rw [d.outcome, d.wd]
    split <;> exact ⟨rfl, rfl, rfl, rfl⟩

/-! ### Phases that run out -/

theorem stageWatchdog_of_wd {w : Watchdog} {s : State} (h : (stageWatchdog s).wd = w) : stageWatchdog s = s.setWd w :=
  congrArg s.setWd h

theorem closedEnds_closed {due : Tick} {s : State} (hp : s.wd.phase = .closed due) : closedEnds s = stageWatchdog s := by
  simp only [closedEnds, hp]

theorem openEnds_answering {due : Tick} {s : State} (hp : s.wd.phase = .opn due ∨ s.wd.phase = .initial due) :
    openEnds s = stageWatchdog s := by
  rcases hp with hp | hp <;> simp only [openEnds, hp]

/-- Settles O40: either row is the watchdog's unit of Stage A, whose due phases `wdStep_sampled` describes. -/
theorem watchdogPhasesRunOut : Obligations.WatchdogPhasesRunOut := by
  refine ⟨fun due s hr hp hd => ?closed, fun due s hr hp hd => ?late⟩
  case closed =>
    obtain ⟨hopens, -, -⟩ := wdStep_sampled s
    refine ⟨_, congrArg Host.Outcome.next (inBatch_running hr), ?_⟩
    rw [closedEnds_closed hp]
    exact stageWatchdog_of_wd ((hopens due hp).trans (if_pos hd))
  case late =>
    obtain ⟨-, hlate, -⟩ := wdStep_sampled s
    refine ⟨_, congrArg Host.Outcome.next (inBatch_running hr), ?_⟩
    rw [openEnds_answering hp]
    exact stageWatchdog_of_wd ((hlate due hp).trans (if_pos hd))

end Sys2Proof.Machine
end

section
/-!
PROOF. Resets: what a reset leaves of nonvolatile memory, of the retained domain and of the volatile items, between batches,
within a batch and by command.
-/

namespace Sys2Proof.Machine

set_option Elab.async false

/-! ### The operation that a reset cuts off -/

/-- What an erasure cut off makes of a slot `x`: EMPTY, as it was, or INVALID (R139; log 7). -/
def slotCutOff (x y : ArchSlot) : Prop := readSlot y = .empty ∨ y = x ∨ ∃ o, readSlot y = .invalid o

theorem slotCutOff.trans {x y z : ArchSlot} (h1 : slotCutOff x y) (h2 : slotCutOff y z) : slotCutOff x z := by
  rcases h2 with hempty | rfl | hinvalid
  · exact .inl hempty
  · exact h1
  · exact .inr (.inr hinvalid)

/-- The erasure goes over the slots one by one, and each step leaves every slot in one of the outcomes (R139). -/
theorem slotCutOff_cutErase (s : State) (j : Fin 4) : slotCutOff (vget s.arch.slots j) (vget (cutErase s).arch.slots j) := by
  unfold cutErase
  generalize List.finRange 4 = l
  induction l generalizing s with
  | nil => exact .inr (.inl rfl)
  | cons i l ih =>
    refine slotCutOff.trans ?_ (ih _)
    have harch : (drawNat s).2.arch = s.arch := rfl
    rw [setArch_arch, harch, vget_vset]
    split
    · subst j
      exact cutSlot_outcomes _ _
    · exact .inr (.inl rfl)

theorem cutErase_prof (s : State) : (cutErase s).prof = s.prof :=
  (onlyParts.foldl (l := [.free, .arch]) (fun s _ => (only_drawNat s).mono.trans (only_setArch _ _).mono)
    (List.finRange 4) s).same .prof

/-- A write cut off leaves its slot INVALID, without an ordinal or with its own, and no other slot touched (R137). -/
theorem cutArchWrite_slots (s : State) :
    (readSlot (vget (cutArchWrite s).arch.slots (archTarget s.arch.slots).1) = .invalid none ∨
      readSlot (vget (cutArchWrite s).arch.slots (archTarget s.arch.slots).1) =
        .invalid (some (archTarget s.arch.slots).2)) ∧
    ∀ j, j ≠ (archTarget s.arch.slots).1 → vget (cutArchWrite s).arch.slots j = vget s.arch.slots j := by
  refine ⟨?_, fun j hj => vget_vset_ne _ _ _ _ hj⟩
  simp only [cutArchWrite, setArch_arch, vget_vset_same, readSlot_cut]
  split
  · exact .inr (by rw [claimPasses_makeClaim]; rfl)
  · exact .inl (by rw [claimPasses_failedClaim]; rfl)

/-- A reset that cuts off no commit keeps the banks (R152). -/
theorem nvAfterReset_of_noCommit {s t : State} (hno : ∀ b, committing b s = false) (hprof : t.prof = s.prof)
    (harch : archiveAfterReset s t) : nvAfterReset s t :=
  ⟨fun b _ => congrArg (bankOf b) hprof, fun b hb => (nomatch (hno b).symm.trans hb), harch⟩

/-- Without an archive write or an erasure to cut off every slot is kept (R137, R139). -/
theorem archiveAfterReset_of_kept {s t : State} (hw : ∀ e k, s.nv.cur ≠ some (.archWrite e, k))
    (he : ∀ k, s.nv.cur ≠ some (.erase, k)) (hslots : t.arch.slots = s.arch.slots) : archiveAfterReset s t :=
  ⟨fun e k h => absurd h (hw e k), fun k h => absurd h (he k), fun _ _ => hslots⟩

/-- What a reset makes of nonvolatile memory, by the operation in progress (R137, R139, R152, R161). -/
theorem nvAfterReset_nvInterrupt (s : State) : nvAfterReset s (nvInterrupt s) := by
  have hkept (hs : nvInterrupt s = s) (hno : ∀ b, committing b s = false) (hw : ∀ e k, s.nv.cur ≠ some (.archWrite e, k))
      (he : ∀ k, s.nv.cur ≠ some (.erase, k)) : nvAfterReset s (nvInterrupt s) := by
    rw [hs]
    exact nvAfterReset_of_noCommit hno rfl (archiveAfterReset_of_kept hw he rfl)
  rcases hc : s.nv.cur with _ | ⟨op, k⟩
  case none => exact hkept (by simp only [nvInterrupt, hc]) (by simp [committing, hc]) (by simp [hc]) (by simp [hc])
  case some =>
    cases op with
    | load => exact hkept (by simp only [nvInterrupt, hc]) (by simp [committing, hc]) (by simp [hc]) (by simp [hc])
    | archWrite e =>
      have hcut : nvInterrupt s = cutArchWrite s := by simp only [nvInterrupt, hc]
      rw [hcut]
      refine nvAfterReset_of_noCommit (by simp [committing, hc]) rfl ⟨fun _ _ _ => ?_, by simp [hc], by simp [hc]⟩
      exact ⟨_, _, writeGoesTo_archTarget s.arch.slots, cutArchWrite_slots s⟩
    | erase =>
      have hcut : nvInterrupt s = cutErase s := by simp only [nvInterrupt, hc]
      rw [hcut]
      exact nvAfterReset_of_noCommit (by simp [committing, hc]) (cutErase_prof s)
        ⟨by simp [hc], fun _ _ => slotCutOff_cutErase s, by simp [hc]⟩
    | commit b g p =>
      obtain ⟨m, n, hcommit⟩ := cutCommit_effect b s
      have hcut : nvInterrupt s = _ := Eq.trans (by simp only [nvInterrupt, hc]) hcommit
      rw [hcut]
      refine ⟨fun b' hb => bankOf_setBank_ne (by simpa [committing, hc] using hb) _ _, fun b' hb => ?_,
        archiveAfterReset_of_kept (by simp [hc]) (by simp [hc]) rfl⟩
      obtain rfl : b' = b := by simpa [committing, hc] using hb
      rw [bankUnusable, setProf_prof, bankOf_setBank, readBank_cut]
      cases m <;> simp

/-! ### A reset has begun -/

/-- The slots and the banks are all of nonvolatile memory. -/
theorem nvAfterReset.congr {s t t' : State} (h : nvAfterReset s t) (hslots : t'.arch.slots = t.arch.slots)
    (hbanks : ∀ b, bankOf b t'.prof = bankOf b t.prof) : nvAfterReset s t' := by
  simpa only [nvAfterReset, bankUnusable, archiveAfterReset, hslots, hbanks] using h

/-- Every reset, of whatever kind and in whatever state it falls (R165). -/
theorem resetBegun_beginReset (kind : ResetKind) (s : State) : resetBegun kind s (beginReset kind s) :=
  ⟨rfl, rfl, (nvAfterReset_nvInterrupt s).congr rfl (fun b => by cases b <;> rfl), beginReset_pending kind s⟩

/-- A reset that abandons a batch begins where the batch has come to, with the queue of its start (R165). -/
theorem resetBegun_abandoned {inp : TickInputs} {cause : ResetCause} {p : BatchPoint} {s : State}
    (hr : s.clk.phase = .running) (hc : inp.cut = some { cause := cause, point := p }) :
    ∃ t, exec (.tickBatch inp) s = .next t ∧ resetBegun (kindOfReset cause) (abandonBatch inp p s) t ∧
      t.pending = s.pending ∧ t.ret = retainedAfter (kindOfReset cause) (abandonBatch inp p s) :=
  ⟨_, congrArg Host.Outcome.next (tickBatch_abandoned hr hc), resetBegun_beginReset _ _,
    (beginReset_pending _ _).trans ((only_abandonBatch inp p s).same .pending), rfl⟩

/-! ### How far an abandoned batch has come -/

/-- A batch abandoned before its first record has run its Stage A (R69; log 39). -/
theorem abandonBatch_records_zero (inp : TickInputs) (s : State) :
    abandonBatch inp (.records 0) s = stageA s.sup.state inp (batchStart inp s) := ite_self _

/-- A whole batch is Stage F after the last point at which a reset can abandon it (R69, R73; log 39). -/
theorem tickBatch_afterOutputs {inp : TickInputs} {s : State} (hr : s.clk.phase = .running) (hc : inp.cut = none) :
    tickBatch inp s = stageF s.sup.state (abandonBatch inp .outputs s) := tickBatch_complete hr hc

/-! ### SOFT_RESET -/

theorem doSoftReset_begins {s : State} (h : selftestRunning s = false) :
    doSoftReset s = { st := beginReset .soft s, res := .ok, data := 0, reset := true } := by
  simp [doSoftReset, h]

theorem doSoftReset_refused {s : State} (h : selftestRunning s = true) : doSoftReset s = refuse .selftestBusy s := if_pos h

/-- SOFT_RESET leaves what its reset leaves, and stores no result (R20, R175). -/
theorem softReset_begins {h : FrameHead} {s : State} (he : executes .softReset h 0x00005A s = true)
    (hst : selftestRunning s = false) : cmdFrame .softReset h 0x00005A s = beginReset .soft (accepted h s) := by
  have hrule : runCommand .softReset 0x00005A (accepted h s) = _ := doSoftReset_begins (s := accepted h s) hst
  rw [cmdFrame_executes he, execute, hrule]
  rfl

/-- Settles O3: every reset by `resetBegun_beginReset`, wherever it begins; the ends of an abandoned batch by the stages before
them. -/
theorem porAndSoftResetBegin : Obligations.PorAndSoftResetBegin := by
  refine ⟨fun s => ⟨_, rfl, resetBegun_beginReset .por s, rfl⟩, fun inp p s hr hc => resetBegun_abandoned hr hc,
    fun inp s hr => ⟨rfl, ?stageA, fun hc => ?stageF⟩, fun h s he => ⟨fun hst => ?begins, fun hst => ?refused⟩⟩
  case stageA =>
    rw [abandonBatch_records_zero, ← batchStart_state inp s]
    exact stageA_runs inp _ (batchStart_running inp hr)
  case stageF => exact ⟨_, congrArg Host.Outcome.next (tickBatch_afterOutputs hr hc), stageF_runs _ _⟩
  case begins =>
    obtain ⟨hnormal, -⟩ : s.sup.state = .normal ∧ sessionOpen s = false := by
      simpa [permitted] using permitted_of_executes he
    exact ⟨_, congrArg Host.Outcome.next (softReset_begins he hst), resetBegun_beginReset .soft (accepted h s), rfl,
      hnormal⟩
  case refused =>
    obtain ⟨t, ht, href, hsrc⟩ := command_refused he nofun (doSoftReset_refused (s := accepted h s) hst)
    exact ⟨t, congrArg Host.Outcome.next ht, href, hsrc⟩

/-! ### PIN_RESET -/

theorem pinResetOn_short {n : Nat} (h : n < 2000) (s : State) : pinResetOn n s = s := if_pos h

theorem pinResetOn_long {n : Nat} (h : 10000 ≤ n) (s : State) : pinResetOn n s = beginPinReset s :=
  (if_neg (Nat.not_lt.mpr (Nat.le_trans (by decide) h))).trans (if_pos h)

/-- Between the two bounds a free bit decides (R165; log 8). -/
theorem pinResetOn_between {n : Nat} (h1 : 2000 ≤ n) (h2 : n < 10000) (s : State) :
    pinResetOn n s = if (drawBit s).1 then beginPinReset (drawBit s).2 else (drawBit s).2 :=
  (if_neg (Nat.not_lt.mpr h1)).trans (if_neg (Nat.not_le.mpr h2))

theorem beginPinReset_begins {s : State} (h : s.clk.phase ≠ .inReset .por) : beginPinReset s = beginReset .pin s := by
  unfold beginPinReset
  split
  · exact absurd ‹_› h
  · rfl

theorem beginPinReset_inPor {s : State} (h : s.clk.phase = .inReset .por) : beginPinReset s = s := by
  simp only [beginPinReset, h]

/-- Settles O4: the length of the low level by the two bounds of `pinResetOn`, and the reset itself by `resetBegun_beginReset`. -/
theorem pinResetByLength : Obligations.PinResetByLength := by
  refine ⟨fun n s hn => congrArg Host.Outcome.next (pinResetOn_short hn s), fun n s hn hp => ?long, fun n s hn hp => ?inPor,
    fun n s h1 h2 => ⟨(drawBit s).2, only_drawBit s, ?between⟩, fun inp p s hr hc => resetBegun_abandoned hr hc⟩
  case long =>
    exact ⟨_, congrArg Host.Outcome.next ((pinResetOn_long hn s).trans (beginPinReset_begins hp)),
      resetBegun_beginReset .pin s, rfl⟩
  case inPor => exact congrArg Host.Outcome.next ((pinResetOn_long hn s).trans (beginPinReset_inPor hp))
  case between =>
    have hdrawn := pinResetOn_between h1 h2 s
    split at hdrawn
    · exact .inr (congrArg Host.Outcome.next (hdrawn.trans (pinResetOn_long le_rfl _).symm))
    · exact .inl (congrArg Host.Outcome.next hdrawn)

end Sys2Proof.Machine
end

section
/-!
PROOF. The journal: what becomes of a record when it is created, and what POP_JOURNAL and PEEK_JOURNAL do.
-/

namespace Sys2Proof.Machine

set_option Elab.async false

/-! ### Counts and pinned records -/

/-- A count goes up by one, but not beyond its largest value (R130). -/
theorem satInc_toNat {w : Nat} (x : BitVec w) : (satInc x).toNat = min (x.toNat + 1) (2 ^ w - 1) := by
  have hx := x.isLt
  unfold satInc
  split
  · rename_i hmax
    rw [hmax, BitVec.toNat_allOnes]
    omega
  · rename_i hmax
    have hne : x.toNat ≠ 2 ^ w - 1 := fun h => hmax (BitVec.eq_of_toNat_eq (h.trans BitVec.toNat_allOnes.symm))
    have hw : 1 < 2 ^ w := by omega
    have hone : (1 : BitVec w).toNat = 1 := (BitVec.toNat_ofNat 1 w).trans (Nat.mod_eq_of_lt hw)
    rw [BitVec.toNat_add, hone, Nat.mod_eq_of_lt (by omega)]
    omega

/-- The pinned records are the STATE records to SAFE and to LOCKDOWN and the ESCALATE records (R129). -/
theorem isPinned_iff (b : RecBody) :
    isPinned b = true ↔ (∃ x, b = .state x .safe) ∨ (∃ x, b = .state x .lockdown) ∨ ∃ n, b = .escalate n := by
  cases b
  case state x y => cases y <;> simp [isPinned]
  all_goals simp [isPinned]

/-- The oldest unpinned record is the first after pinned ones (R130). -/
theorem dropUnpinned_split {older newer : List Rec} {x : Rec} (ho : ∀ y ∈ older, isPinned y.body = true)
    (hx : isPinned x.body = false) : dropUnpinned (older ++ x :: newer) = older ++ newer := by
  induction older with
  | nil => simp [dropUnpinned, hx]
  | cons y ys ih =>
    obtain ⟨hy, hys⟩ := List.forall_mem_cons.mp ho
    simp [dropUnpinned, hy, ih hys]

/-! ### What becomes of a created record -/

section
variable {policy : JrnPolicy} {r : Rec} {j : Journal}

theorem appendRec_of_room (h : j.recs.length < journalCap) : appendRec policy r j = { j with recs := j.recs ++ [r] } :=
  if_pos h

theorem appendRec_keepOldest (h : journalCap ≤ j.recs.length) :
    appendRec .keepOldest r j = { j with lost := satInc j.lost } := if_neg (Nat.not_lt.mpr h)

theorem appendRec_allPinned (h : journalCap ≤ j.recs.length) (hp : ∀ x ∈ j.recs, isPinned x.body = true) :
    appendRec .keepNewest r j = { j with lost := satInc j.lost } := by
  have hnone : ¬ j.recs.any (fun x => !isPinned x.body) = true := by simpa using hp
  exact (if_neg (Nat.not_lt.mpr h)).trans (if_neg hnone)

theorem appendRec_displaces {older newer : List Rec} {x : Rec} (h : journalCap ≤ j.recs.length)
    (hj : j.recs = older ++ x :: newer) (ho : ∀ y ∈ older, isPinned y.body = true) (hx : isPinned x.body = false) :
    appendRec .keepNewest r j = { j with recs := older ++ newer ++ [r], displaced := satInc j.displaced } := by
  have hsome : j.recs.any (fun x => !isPinned x.body) = true := by simp [hj, hx]
  rw [← dropUnpinned_split ho hx, ← hj]
  exact (if_neg (Nat.not_lt.mpr h)).trans (if_pos hsome)

end

/-- A record is created under the policy of the running configuration, and takes one SEQ value (R127). -/
theorem writeRec_jrn {policy : JrnPolicy} {s : State} (b : RecBody) (h : s.prof.running.jrn.policy = policy) :
    (writeRec b s).jrn = { appendRec policy (newRec s b) s.jrn with seq := s.jrn.seq + 1 } := by
  rw [← h]
  rfl

/-- Settles O8: each row of R130 by its lemma about `appendRec`. -/
theorem recordCreation : Obligations.RecordCreation := by
  refine ⟨fun b s => ⟨only_writeRec b s, fun hroom => ?room, fun hfull hpol => ?oldest, fun hfull hpol hall => ?pinned,
    fun older x newer hfull hpol hj ho hx => ?displaces⟩, fun n => satInc_toNat n⟩
  case room =>
    rw [writeRec_jrn b rfl, appendRec_of_room hroom]
    rfl
  case oldest => rw [writeRec_jrn b hpol, appendRec_keepOldest hfull]
  case pinned => rw [writeRec_jrn b hpol, appendRec_allPinned hfull fun x hm => (isPinned_iff x.body).mpr (hall x hm)]
  case displaces =>
    have hunpinned : isPinned x.body = false := Bool.eq_false_iff.mpr (mt (isPinned_iff x.body).mp hx)
    rw [writeRec_jrn b hpol,
      appendRec_displaces hfull hj (fun y hm => (isPinned_iff y.body).mpr (ho y hm)) hunpinned]
    rfl

/-! ### POP_JOURNAL and PEEK_JOURNAL -/

/-- The journal once its oldest record `r` has been popped: with records lost, the LOST marker takes the room it leaves (R131). -/
def jrnPopped (r : Rec) (rest : List Rec) (s : State) : Journal :=
  if s.jrn.lost = 0 then { s.jrn with recs := rest, buf := some r }
  else
    { s.jrn with
      recs := rest ++ [{ seq := s.jrn.seq, tick := s.clk.tick, episode := s.sup.episode, body := .lost s.jrn.lost }]
      seq := s.jrn.seq + 1, lost := 0, buf := some r }

theorem lostMarker_none {s : State} (h : s.jrn.lost = 0) : lostMarker s = s := if_pos h

/-- Where there is room the LOST marker is appended, with the count of the records lost, which starts anew (R131). -/
theorem lostMarker_appended {s : State} (hroom : s.jrn.recs.length < journalCap) (h : s.jrn.lost ≠ 0) :
    lostMarker s = s.setJrn
      { s.jrn with recs := s.jrn.recs ++ [newRec s (.lost s.jrn.lost)], seq := s.jrn.seq + 1, lost := 0 } := by
  have hmarked := writeRec_jrn (s := s) (.lost s.jrn.lost) rfl
  rw [appendRec_of_room hroom] at hmarked
  simp only [lostMarker, if_neg h, hmarked]
  rfl

/-- A removal makes room for the LOST marker (R131). -/
theorem lostMarker_popped {r : Rec} {rest : List Rec} {s : State} (hroom : rest.length < journalCap) :
    lostMarker (s.setJrn { s.jrn with recs := rest, buf := some r }) = s.setJrn (jrnPopped r rest s) := by
  by_cases h : s.jrn.lost = 0
  · rw [jrnPopped, if_pos h]
    exact lostMarker_none h
  · rw [jrnPopped, if_neg h]
    exact lostMarker_appended hroom h

theorem doPopJournal_cons {r : Rec} {rest : List Rec} {s : State} (hj : s.jrn.recs = r :: rest)
    (h : rest.length < journalCap) :
    doPopJournal s = okWith (journalData (jrnPopped r rest s).recs.length r) (s.setJrn (jrnPopped r rest s)) := by
  simp only [doPopJournal, hj, lostMarker_popped h, setJrn_jrn]

theorem doPopJournal_nil {s : State} (hj : s.jrn.recs = []) : doPopJournal s = plainOut .empty s := by
  simp only [doPopJournal, hj]

theorem doPeekJournal_cons {r : Rec} {rest : List Rec} {s : State} (hj : s.jrn.recs = r :: rest) :
    doPeekJournal s = okWith (journalData s.jrn.recs.length r) (s.setJrn { s.jrn with buf := some r }) := by
  simp only [doPeekJournal, hj]

theorem doPeekJournal_nil {s : State} (hj : s.jrn.recs = []) : doPeekJournal s = plainOut .empty s := by
  simp only [doPeekJournal, hj]

/-- The condition of the journal's source follows from the number of records alone (R134). -/
theorem unitCond_setJrn {s : State} {j : Journal} (h : j.recs = s.jrn.recs) (i : SrcId) :
    unitCond (s.setJrn j) i = unitCond s i := by
  unfold unitCond
  cases srcKind i
  case journalFull => exact congrArg (fun l => decide (l.length = journalCap)) h
  all_goals rfl

/-- Settles O27: without a record neither rule has an effect; with one, PEEK fills the buffer alone, and POP leaves
`jrnPopped`. -/
theorem popAndPeekJournal : Obligations.PopAndPeekJournal := by
  refine ⟨fun h s hj => ⟨fun he => ?popEmpty, fun he => ?peekEmpty⟩,
    fun h r rest s hj hcap => ⟨fun he => ?peek, fun he => ?pop⟩⟩
  case popEmpty =>
    obtain ⟨t, ht, hdone⟩ := command_without_effect he nofun (doPopJournal_nil (s := accepted h s) hj)
    exact ⟨t, congrArg Host.Outcome.next ht, hdone⟩
  case peekEmpty =>
    obtain ⟨t, ht, hdone⟩ := command_without_effect he nofun (doPeekJournal_nil (s := accepted h s) hj)
    exact ⟨t, congrArg Host.Outcome.next ht, hdone⟩
  case peek =>
    have hcond (i : SrcId) : unitCond s i = unitCond ((accepted h s).setJrn { s.jrn with buf := some r }) i :=
      ((unitCond_setJrn (s := accepted h s) rfl i).trans (unitCond_accepted h s i)).symm
    obtain ⟨t, ht, d⟩ := command_outcome [.jrn] _ he nofun (doPeekJournal_cons (s := accepted h s) hj) (only_setJrn _ _).mono
      (by decide) (.inr hcond)
    exact ⟨t, congrArg Host.Outcome.next ht, d.done, d.prof.trans (cancelUnlock_prof_congr rfl), d.rest.same .jrn⟩
  case pop =>
    have hroom : rest.length < journalCap := by rwa [hj] at hcap
    obtain ⟨t, ht, d⟩ := command_outcome [.jrn, .src] _ he nofun (doPopJournal_cons (s := accepted h s) hj hroom)
      (only_setJrn _ _).mono (by decide) (.inl (by decide))
    have hjrn : t.jrn = jrnPopped r rest s := d.rest.same .jrn
    refine ⟨t, congrArg Host.Outcome.next ht, ?_, d.prof.trans (cancelUnlock_prof_congr rfl), d.srcf, hjrn⟩
    rw [hjrn]
    exact d.done

end Sys2Proof.Machine
end

section
/-!
PROOF. Stored content and the registers that show it: how slots and banks are judged, sound and damaged; the selectors; the
snapshot behind ARCH_SEL.
-/

namespace Sys2Proof.Machine

set_option Elab.async false

/-! ### What a slot is read as -/

theorem readSlot_empty (x : ArchSlot) : readSlot x = .empty ↔ x.claim = none ∧ x.body = none := by
  rcases x with ⟨_ | c, _ | b⟩ <;> simp only [readSlot]
  case some.some => split <;> simp
  all_goals simp

theorem claimOrd_some (x : ArchSlot) (o : Byte) : claimOrd x = some o ↔ x.claim = some (makeClaim o) := by
  unfold claimOrd
  cases x.claim with
  | none => simp
  | some c =>
    simp only [Option.ite_none_right_eq_some, Option.some.injEq, claimPasses_iff]
    constructor
    · rintro ⟨hc, rfl⟩
      exact hc
    · rintro rfl
      exact ⟨rfl, rfl⟩

/-- The ordinal of an INVALID slot is that of its claim (R135). -/
theorem readSlot_invalid {x : ArchSlot} {o : Option Byte} (h : readSlot x = .invalid o) : o = claimOrd x := by
  rcases x with ⟨_ | c, _ | b⟩ <;> simp only [readSlot] at h
  case none.none => nomatch h
  case some.some =>
    split at h
    · nomatch h
    · exact (SlotState.invalid.inj h).symm
  all_goals exact (SlotState.invalid.inj h).symm

theorem eq_writtenSlot_iff (x : ArchSlot) (o : Byte) (e : ArchEntry) :
    x = writtenSlot o e ↔ x.claim = some (makeClaim o) ∧ x.body = some { entry := e, code := Config.bodyCode e } := by
  cases x
  simp [writtenSlot]

/-! ### What a bank is read as -/

theorem readBank_erased (x : Bank) : readBank x = .erased ↔ x.marker = false := by
  unfold readBank
  split
  · rename_i hm
    split
    · split <;> simp [hm]
    · simp [hm]
  · rename_i hm
    simp [hm]

theorem eq_writtenBank_iff (x : Bank) (g : Word) (p : Profile) :
    x = writtenBank g p ↔ x.marker = true ∧ x.gen = g ∧ x.content = some p ∧ x.code = Config.profileCode p := by
  cases x
  simp [writtenBank, and_comm]

/-! ### Damage as a batch begins -/

theorem batchStart_damaged (inp : TickInputs) (d : NvDamage) (s : State) :
    batchStart { inp with damage := [d] } s = advanceTick (sufferDamage d s) := rfl

/-- A batch begins with slot `i` replaced by `x` (R135). -/
theorem slotHurt_vset {inp : TickInputs} {d : NvDamage} {i : Fin 4} {x : ArchSlot} {s : State} {r : SlotState}
    (hd : sufferDamage d s = s.setArch { s.arch with slots := vset s.arch.slots i x }) (hx : readSlot x = r) :
    onlySlotHurt i s (batchStart { inp with damage := [d] } s) ∧
      readSlot (vget (batchStart { inp with damage := [d] } s).arch.slots i) = r := by
  rw [batchStart_damaged, hd]
  exact ⟨⟨.trans (only_setArch _ _).mono (only_setClk _ _).mono, rfl, rfl, fun _ hj => vget_vset_ne _ _ _ _ hj⟩,
    (congrArg readSlot (vget_vset_same _ _ _)).trans hx⟩

/-- A batch begins with bank `b` replaced by `x` (R152). -/
theorem onlyBankHurt_setBank (b : BankId) (x : Bank) (s : State) :
    onlyBankHurt b s (advanceTick (s.setProf (setBank b x s.prof))) :=
  ⟨.trans (only_setProf _ _).mono (only_setClk _ _).mono, rfl, by cases b <;> rfl⟩

/-- Settles O9: the judgements by their lemmas, and damage by what it makes of a slot or a bank that was written whole. -/
theorem storedContentIsJudged : Obligations.StoredContentIsJudged := by
  refine ⟨fun x => ⟨readSlot_empty x, fun o e => (readSlot_valid x o e).trans (eq_writtenSlot_iff x o e),
    claimOrd_some x, fun _ => readSlot_invalid⟩,
    fun x => ⟨readBank_erased x, fun g p => (readBank_valid x g p).trans (eq_writtenBank_iff x g p)⟩,
    fun inp s hno => ?sound, fun inp i o e s hx => ?slot, fun inp b flips g p s t hx hf ht => ?bank⟩
  case sound => rw [batchStart, hno]; rfl
  case slot =>
    have hwritten := (readSlot_valid _ o e).mp hx
    refine ⟨fun flips t hf ht => ?_, fun flips t hf ht => ?_⟩
    · rw [ht]
      exact slotHurt_vset rfl (by rw [hwritten, readSlot_hurtClaim hf])
    · rw [ht]
      exact slotHurt_vset rfl (by rw [hwritten, readSlot_hurtBody hf])
  case bank =>
    have hwritten := (readBank_valid _ g p).mp hx
    rw [ht, batchStart_damaged]
    refine ⟨onlyBankHurt_setBank b _ s, (congrArg readBank (bankOf_setBank _ _ _)).trans ?_⟩
    rw [hwritten]
    exact readBank_hurt hf g p

/-! ### WRITE_REG of a selector -/

/-- The value of an executed WRITE_REG is in the range of its register (R16, R178). -/
theorem writeValueOk_of_executes {h : FrameHead} {addr : Byte} {data : Word} {s : State}
    (he : executes .writeReg h (addr ++ data) s = true) : writeValueOk addr s.sel.page data = true := by
  simp only [executes, Bool.and_eq_true] at he
  obtain ⟨⟨-, hrange⟩, -⟩ := he
  simpa [argInRange] using hrange

theorem runCommand_write (addr : Byte) (data : Word) (u : State) :
    runCommand .writeReg (addr ++ data) u = okOut (writeEffect addr data u) := by
  simp [runCommand, doWriteReg]

/-- No unit's condition follows from a selection or from the archive. -/
theorem unitCond_writeArchSel (data : Word) (s : State) (i : SrcId) : unitCond (writeArchSel data s) i = unitCond s i :=
  unitCond_congr (.trans (only_setSel _ _).mono (only_setArch _ _).mono) rfl i

theorem unitCond_setSel (q : Selectors) (s : State) (i : SrcId) : unitCond (s.setSel q) i = unitCond s i :=
  unitCond_congr (only_setSel _ _).mono rfl i

/-- A write whose effect is on the selectors alone (R178). -/
theorem selector_written {h : FrameHead} {addr : Byte} {data : Word} {s : State} {q : Selectors}
    (he : executes .writeReg h (addr ++ data) s = true)
    (hw : writeEffect addr data (accepted h s) = (accepted h s).setSel q) :
    ∃ t, exec (.writeReg h addr data) s = .next t ∧ commandDone [.sel] h .ok 0 s t ∧ unlockCancelled s t ∧ t.sel = q := by
  have hrule : runCommand .writeReg (addr ++ data) (accepted h s) = okOut ((accepted h s).setSel q) := by
    rw [runCommand_write, hw]
  obtain ⟨t, ht, d⟩ := command_outcome [.sel] _ he nofun hrule (only_setSel _ _).mono (by decide)
    (.inr fun i => ((unitCond_setSel _ _ i).trans (unitCond_accepted h s i)).symm)
  exact ⟨t, congrArg Host.Outcome.next ht, d.done, d.prof.trans (cancelUnlock_prof_congr rfl), d.rest.same .sel⟩

/-- A selector reads back the value that it was given (R178). -/
theorem w16_ofNat {n : Nat} [NeZero n] {data : Word} (h : data.toNat < n) : w16 (Fin.ofNat n data.toNat).val = data := by
  rw [Fin.val_ofNat, Nat.mod_eq_of_lt h, w16, BitVec.ofNat_toNat, BitVec.setWidth_eq]

theorem w16_page {data : Word} (h : data.toNat < 2) : w16 (data.getLsbD 0).toNat = data := by
  rcases Nat.le_one_iff_eq_zero_or_eq_one.mp (Nat.le_of_lt_succ h) with h0 | h1
  · obtain rfl : data = 0 := BitVec.eq_of_toNat_eq h0
    rfl
  · obtain rfl : data = 1 := BitVec.eq_of_toNat_eq h1
    rfl

/-! ### The snapshot of ARCH_SEL -/

theorem archSelect_of_unique {slots : Vector ArchSlot 4} {n : Fin 4} {a : Byte} (h : newestWith slots n a)
    (hu : ∀ m b, newestWith slots m b → m = n) (k : Fin 4) : archSelect slots k = n - k := by
  rw [archSelect, newestSlot_of_unique h hu]
  rfl

theorem archSelect_none {slots : Vector ArchSlot 4} (h : ∀ j, claimOrd (vget slots j) = none) (k : Fin 4) :
    archSelect slots k = 0 - k := by
  rw [archSelect, newestSlot_none h]
  rfl

/-- A write of ARCH_SEL selects, and takes the snapshot of the slot selected (R138). -/
theorem archSel_written {h : FrameHead} {data : Word} {s : State}
    (he : executes .writeReg h ((0x5A : Byte) ++ data) s = true) :
    ∃ t, exec (.archSelWrite h data) s = .next t ∧ commandDone [.sel, .arch] h .ok 0 s t ∧ unlockCancelled s t ∧
      t.sel = { s.sel with archSel := Fin.ofNat 4 data.toNat } ∧ t.arch = archSnapshot (Fin.ofNat 4 data.toNat) s.arch := by
  obtain ⟨t, ht, d⟩ := command_outcome [.sel, .arch] _ he nofun (runCommand_write 0x5A data (accepted h s))
    (only_writeEffect _ _ _).mono (by decide)
    (.inr fun i => ((unitCond_writeArchSel data _ i).trans (unitCond_accepted h s i)).symm)
  exact ⟨t, congrArg Host.Outcome.next ht, d.done, d.prof.trans (cancelUnlock_prof_congr rfl), d.rest.same .sel,
    d.rest.same .arch⟩

/-- Settles O18: a selector by `selector_written` and its range, ARCH_SEL by `archSel_written` and the slot that it selects. -/
theorem selectorWritesSelect : Obligations.SelectorWritesSelect := by
  refine fun h data s => ⟨fun addr hm he => ?selector, fun he => ?archSel⟩
  case selector =>
    have hok := writeValueOk_of_executes he
    simp only [List.mem_cons, List.not_mem_nil, or_false] at hm
    rcases hm with rfl | rfl | rfl | rfl | rfl | rfl | rfl | rfl <;>
      obtain ⟨t, ht, hdone, hunlock, hsel⟩ := selector_written he rfl <;>
      have hrange := Nat.lt_succ_of_le (of_decide_eq_true hok) <;>
      refine ⟨t, ht, hdone, hunlock, ?_, by simp [hsel]⟩
    · exact (congrArg (fun q => w16 q.page.toNat) hsel).trans (w16_page hrange)
    · exact (congrArg (fun q => w16 q.srcIndex.val) hsel).trans (w16_ofNat hrange)
    · exact (congrArg (fun q => w16 q.nodeSel.val) hsel).trans (w16_ofNat hrange)
    · exact (congrArg (fun q => w16 q.lcSel.val) hsel).trans (w16_ofNat hrange)
    · exact (congrArg (fun q => w16 q.edtIndex.val) hsel).trans (w16_ofNat hrange)
    · exact (congrArg (fun q => w16 q.planIndex.val) hsel).trans (w16_ofNat hrange)
    · exact (congrArg (fun q => w16 q.flSel.val) hsel).trans (w16_ofNat hrange)
    · exact (congrArg (fun q => w16 q.hbSel.val) hsel).trans (w16_ofNat hrange)
  case archSel =>
    have hrange : data.toNat ≤ 3 := of_decide_eq_true (writeValueOk_of_executes he)
    obtain ⟨t, ht, hdone, hunlock, hsel, harch⟩ := archSel_written he
    have hview : t.arch.view = readSlot (vget s.arch.slots (archSelect s.arch.slots t.sel.archSel)) := by
      rw [harch, hsel]
      rfl
    refine ⟨t, ht, hdone, hunlock, by rw [hsel], ?_, by rw [harch]; rfl, fun n a hn hu => ?_, fun hnone => ?_, _, hview⟩
    · rw [hsel]
      exact Nat.mod_eq_of_lt (Nat.lt_succ_of_le hrange)
    · rw [hview, archSelect_of_unique hn hu]
    · rw [hview, archSelect_none hnone]

end Sys2Proof.Machine
end

section
/-!
PROOF. CLEAR_ARCHIVE, RUN_SELFTEST, and the profile load of INIT.
-/

namespace Sys2Proof.Machine

set_option Elab.async false

/-! ### CLEAR_ARCHIVE -/

theorem isErase_iff (op : NvOp) : isErase op = true ↔ op = .erase := by cases op <;> simp [isErase]

/-- The model's test for an erasure waiting or in progress (R139). -/
theorem erasePending_iff (s : State) : erasePending s = true ↔ nvHolds .erase s := by
  unfold erasePending nvHolds
  rw [Bool.or_eq_true, List.any_eq_true]
  refine or_congr (by simp [isErase_iff]) ?_
  rcases s.nv.cur with _ | ⟨op, k⟩
  · simp
  · simp [isErase_iff]

/-- An erasure that is requested begins at once when the controller idles, and waits otherwise (R164). -/
theorem nvRequest_erase {s : State} (h : NvInv s) : nvRequest .erase s = s.setNv (nvAsked .erase s) := by
  rw [nvAsked, requested]
  split
  · rename_i hc
    rw [nvRequest_idle _ hc, h hc]
    rfl
  · rename_i x hc
    exact nvRequest_busy _ (by simp [hc])

theorem unitCond_setNv (c : NvCtrl) (s : State) (i : SrcId) : unitCond (s.setNv c) i = unitCond s i :=
  unitCond_congr (only_setNv _ _).mono rfl i

/-- A CLEAR_ARCHIVE that leaves the controller as `c`: the open session it needs is no unlock step to cancel (R15, R156). -/
theorem clearArchive_outcome {h : FrameHead} {s : State} {c : NvCtrl} (he : executes .clearArchive h 0 s = true)
    (ho : doClearArchive (accepted h s) = okOut ((accepted h s).setNv c)) :
    ∃ t, exec (.clearArchive h 0) s = .next t ∧ commandDone [.nv] h .ok 0 s t ∧ t.prof = s.prof ∧ t.src = s.src ∧
      t.nv = c := by
  obtain ⟨-, hopen⟩ : inCalmOrSafe s.sup.state = true ∧ sessionOpen s = true := by
    simpa [permitted] using permitted_of_executes he
  have hcond (i : SrcId) : unitCond s i = unitCond ((accepted h s).setNv c) i := by
    rw [unitCond_setNv, unitCond_accepted]
  obtain ⟨t, ht, d⟩ := command_outcome [.nv] _ he nofun ho (only_setNv _ _).mono (by decide) (.inr hcond)
  have hprof : t.prof = (cancelUnlock s).prof := d.prof.trans (cancelUnlock_prof_congr rfl)
  exact ⟨t, congrArg Host.Outcome.next ht, d.done, hprof.trans (cancelUnlock_of_open hopen), d.same hcond,
    d.rest.same .nv⟩

/-! ### RUN_SELFTEST -/

/-- The condition of the self-test's source follows from the last failure alone (R169). -/
theorem unitCond_setSt {s : State} {x : SelfTest} (h : x.lastFail = s.st.lastFail) (i : SrcId) :
    unitCond (s.setSt x) i = unitCond s i := by
  unfold unitCond
  cases srcKind i
  case selftestFail => exact congrArg Option.isSome h
  all_goals rfl

/-- Settles O28: an erasure already asked for is not asked for again, and a run in progress refuses another. -/
theorem clearArchiveAndRunSelftestBegin : Obligations.ClearArchiveAndRunSelftestBegin := by
  refine ⟨fun h s hinv he => ?clear, fun h s he => ?selftest⟩
  case clear =>
    by_cases hold : nvHolds .erase s
    · obtain ⟨t, ht, hdone, hprof, hsrc, hnv⟩ := clearArchive_outcome (c := s.nv) he
        (if_pos ((erasePending_iff (accepted h s)).mpr hold))
      exact ⟨t, ht, hdone, hprof, hsrc, fun _ => hnv, fun hno => absurd hold hno⟩
    · have hrule : doClearArchive (accepted h s) = okOut ((accepted h s).setNv (nvAsked .erase s)) := by
        rw [doClearArchive, if_neg (mt (erasePending_iff (accepted h s)).mp hold), nvRequest_erase (s := accepted h s) hinv]
        rfl
      obtain ⟨t, ht, hdone, hprof, hsrc, hnv⟩ := clearArchive_outcome he hrule
      exact ⟨t, ht, hdone, hprof, hsrc, fun hyes => absurd hyes hold, fun _ => hnv⟩
  case selftest =>
    by_cases hrun : selftestRunning s = true
    · obtain ⟨t, ht, href, -⟩ := command_refused he nofun (if_pos (show selftestRunning (accepted h s) = true from hrun))
      exact ⟨t, congrArg Host.Outcome.next ht, (if_pos hrun).mpr href⟩
    · have hcond (i : SrcId) : unitCond s i = unitCond (startSelftest (accepted h s)) i :=
        ((unitCond_setSt (s := accepted h s) rfl i).trans (unitCond_accepted h s i)).symm
      obtain ⟨t, ht, d⟩ := command_outcome [.st] _ he nofun (if_neg (show ¬ selftestRunning (accepted h s) = true from hrun))
        (only_setSt _ _).mono (by decide) (.inr hcond)
      exact ⟨t, congrArg Host.Outcome.next ht,
        (if_neg hrun).mpr ⟨d.done, d.prof.trans (cancelUnlock_prof_congr rfl), d.rest.same .st⟩⟩

/-! ### What the profile load makes of the banks -/

/-- The store with profile `x` loaded from bank `b` with generation `g` (R153). -/
def bankLoaded (b : BankId) (g : Word) (x : Profile) (p : ProfileStore) : ProfileStore :=
  { p with running := x, coded := x, curBank := some b, gen := g, dflt := false, s49Detail := 0 }

/-- Bank A is loaded when it is VALID and B is not both VALID and newer (R153). -/
theorem loadBanks_bankA {p : ProfileStore} {g : Word} {x : Profile} (ha : readBank p.bankA = .valid g x)
    (hb : ∀ g' x', readBank p.bankB = .valid g' x' → genNewer g' g = false) : loadBanks p = bankLoaded .bankA g x p := by
  unfold loadBanks
  rw [ha]
  cases hB : readBank p.bankB with
  | erased => rfl
  | damaged => rfl
  | valid g' x' => exact if_neg (by simp [hb g' x' hB])

/-- Bank B is loaded when it is VALID, and newer than A where A is VALID too (R153). -/
theorem loadBanks_bankB {p : ProfileStore} {g : Word} {x : Profile} (hb : readBank p.bankB = .valid g x)
    (ha : ∀ g' x', readBank p.bankA = .valid g' x' → genNewer g g' = true) : loadBanks p = bankLoaded .bankB g x p := by
  unfold loadBanks
  rw [hb]
  cases hA : readBank p.bankA with
  | erased => rfl
  | damaged => rfl
  | valid g' x' => exact if_pos (ha g' x' hA)

/-- The Default Profile is loaded when neither bank is VALID, and S49's detail tells which was DAMAGED (R153). -/
theorem loadBanks_default {p : ProfileStore} (ha : ∀ g x, readBank p.bankA ≠ .valid g x)
    (hb : ∀ g x, readBank p.bankB ≠ .valid g x) :
    loadBanks p =
      { p with
        running := defaultProfile, coded := defaultProfile, curBank := none, gen := 0, dflt := true
        s49Detail := (if readBank p.bankA = .damaged then 1 else 0) ||| (if readBank p.bankB = .damaged then 4 else 0) } := by
  unfold loadBanks
  cases hA : readBank p.bankA <;> cases hB : readBank p.bankB
  case valid.erased | valid.damaged | valid.valid => exact absurd hA (ha _ _)
  case erased.valid | damaged.valid => exact absurd hB (hb _ _)
  all_goals rfl

/-- The load leaves both banks and the session alone (R153). -/
theorem loadBanks_kept (p : ProfileStore) :
    (loadBanks p).bankA = p.bankA ∧ (loadBanks p).bankB = p.bankB ∧ (loadBanks p).session = p.session := by
  unfold loadBanks
  simp only []
  split
  · split <;> exact ⟨rfl, rfl, rfl⟩
  all_goals exact ⟨rfl, rfl, rfl⟩

/-! ### INIT goes on from the load -/

theorem completeNv_load {k : Tick} {s : State} (hc : s.nv.cur = some (.load, k)) : completeNv s = completeLoad s := by
  simp only [completeNv, hc]

/-- The state in which INIT goes on after its load, the archive entry being written (R136, R153, R164, R167). -/
def initLoaded (s : State) : State :=
  ((s.setProf (loadBanks s.prof)).setClk { s.clk with initStep := .archive }).setNv
    { cur := some (.archWrite (initEntry s), s.now), queue := [] }

/-- The load of INIT completes with nothing waiting (R153, R167). -/
theorem completeLoad_inInit {s : State} (hq : s.nv.queue = []) (hs : s.sup.state = .init) (hi : s.clk.initStep = .load) :
    completeLoad s = initLoaded s := by
  have hidle : nvFinish (s.setProf (loadBanks s.prof)) =
      (s.setProf (loadBanks s.prof)).setNv { cur := none, queue := [] } := by
    simp [nvFinish, nvBegin, hq]
  unfold completeLoad
  simp only [hidle]
  refine (if_pos ⟨hs, hi⟩).trans ?_
  exact nvRequest_archWrite _ (fun _ => rfl)

theorem only_initLoaded (s : State) : onlyParts [.prof, .nv, .clk] s (initLoaded s) :=
  .trans (.trans (only_setProf _ _).mono (only_setClk _ _).mono) (only_setNv _ _).mono

/-- Settles O49: the row leaves `initLoaded`, whose store is `loadBanks` of the two banks. -/
theorem profileLoadChoosesBank : Obligations.ProfileLoadChoosesBank := by
  intro k s hr hc hq hs hi
  have hrow : finishOp isLoad s = initLoaded s :=
    ((finishOp_ready hc rfl (Nat.zero_le _)).trans (completeNv_load hc)).trans (completeLoad_inInit hq hs hi)
  obtain ⟨hbankA, hbankB, hsession⟩ := loadBanks_kept s.prof
  refine ⟨_, congrArg Host.Outcome.next (inStageD_running hr), ?_⟩
  rw [hrow]
  have hprof : (refreshCrit (initLoaded s)).prof = loadBanks s.prof := rfl
  refine ⟨.trans (only_initLoaded s).mono (only_refreshCrit _).mono, rfl, rfl, hbankA, hbankB, hsession, ?_⟩
  rw [hprof]
  refine ⟨fun g p ha hb => ?bankA, fun g p hb ha => ?bankB, fun ha hb => ?default⟩
  case bankA =>
    rw [loadBanks_bankA ha hb]
    exact ⟨rfl, rfl, rfl, rfl⟩
  case bankB =>
    rw [loadBanks_bankB hb ha]
    exact ⟨rfl, rfl, rfl, rfl⟩
  case default =>
    rw [loadBanks_default ha hb]
    exact ⟨rfl, rfl, rfl, rfl, rfl⟩

end Sys2Proof.Machine
end

section
/-!
PROOF. The supervision of the outputs as rows: the transitions of a read-back comparator, and the exchange of the error pair.
-/

namespace Sys2Proof.Machine

set_option Elab.async false

/-! ### Read-back comparators -/

/-- A row of a comparator whose trigger holds takes that comparator's step and leaves the others (R147). -/
theorem compOne_taken {i : Fin 8} {sample : Bool} {wanted : Comp → Comp → Bool} {s : State} {c : Comp}
    (hi : s.sup.state ≠ .init) (hc : compStep s.prof.running.osv.filter sample (vget s.out.comps i) = c)
    (hw : wanted (vget s.out.comps i) c = true) :
    compOne i sample wanted s = s.setOut { s.out with comps := vset s.out.comps i c } := by
  subst hc
  exact if_pos ⟨hi, hw⟩

/-- The last step of a settle allowance takes no sample (R147). -/
theorem compStep_settled {c : Comp} (hs : c.settle = 1) (f : BitVec 4) (m : Bool) :
    compStep f m c = { c with settle := 0 } :=
  (compStep_sampled f m c).trans (by simp [hs])

/-- The sample that completes a run of OSV_FILTER turns the qualification over (R148). -/
theorem compStep_turns {q : Bool} {f : BitVec 4} {c : Comp} (hs : c.settle = 0) (hq : c.qual = q)
    (hf : f.toNat ≤ c.count.toNat + 1) : compStep f (!q) c = { settle := 0, qual := !q, count := 0 } :=
  (compStep_sampled f (!q) c).trans (by simp [hs, hq, hf])

/-- Settles O38: the row takes its comparator's step (`compOne_taken`): the allowance ends, or the qualification turns over. -/
theorem comparatorTransitions : Obligations.ComparatorTransitions := by
  intro i s hr hi
  refine ⟨fun hs => ?settled, fun hs hq hf => ?qualified, fun hs hq hf => ?withdrawn⟩ <;>
    refine ⟨_, congrArg Host.Outcome.next (inBatch_running hr), ?_⟩
  case settled => exact compOne_taken hi (compStep_settled hs _ _) (by simp [settleEnds, hs])
  case qualified => exact compOne_taken hi (compStep_turns hs hq hf) (by simp [mismatchStarts, hq])
  case withdrawn => exact compOne_taken hi (compStep_turns hs hq hf) (by simp [mismatchEnds, hq])

/-! ### The exchange of the error pair -/

/-- The levels `old` with EP0 and EP1 taken from `new` (R140; log 4). -/
def withPairOf (new old : BitVec 8) : BitVec 8 := (old &&& 0xCF) ||| (new &&& 0x30)

theorem withPairOf_pins (new old : BitVec 8) :
    (withPairOf new old).getLsbD 4 = new.getLsbD 4 ∧ (withPairOf new old).getLsbD 5 = new.getLsbD 5 := by
  simp [withPairOf]

theorem withPairOf_others (new old : BitVec 8) {j : Fin 8} (h4 : j.val ≠ 4) (h5 : j.val ≠ 5) :
    (withPairOf new old).getLsbD j.val = old.getLsbD j.val := by
  have hmasks : ∀ j : Fin 8, j.val ≠ 4 → j.val ≠ 5 →
      (0xCF : BitVec 8).getLsbD j.val = true ∧ (0x30 : BitVec 8).getLsbD j.val = false := by decide
  obtain ⟨hkept, htaken⟩ := hmasks j h4 h5
  rw [withPairOf, BitVec.getLsbD_or, BitVec.getLsbD_and, BitVec.getLsbD_and, hkept, htaken]
  simp

/-- Each comparator settles exactly when its output moves (R147). -/
theorem driveLevels_comps (new : BitVec 8) (o : Outputs) (j : Fin 8) :
    vget (driveLevels new o).comps j =
      if new.getLsbD j.val = o.level.getLsbD j.val then vget o.comps j
      else { (vget o.comps j) with settle := 2, count := 0 } := by
  simp only [driveLevels, vget_vmap, compSettle]

/-- Outside INIT EP0 and EP1 are commanded by the pair (R141, R142). -/
theorem commandedLevels_pair {u : Supervisor} (h : u.state ≠ .init) (c : EpCfg) (p : Pair) :
    (commandedLevels c u p).getLsbD 4 = (pairLevels c p).1 ∧ (commandedLevels c u p).getLsbD 5 = (pairLevels c p).2 := by
  rw [commandedLevels_driven h]
  obtain ⟨hep0, hep1, -, -⟩ := levelWord_pins (pwrenLevel u.state u.powerCut) (nhrstLevel u.state u.hostReset)
    (pairLevels c p).2 (pairLevels c p).1 (ssoLevels u.state u.active)
  exact ⟨hep0, hep1⟩

/-- What a pair becomes by a due exchange: STATIC when that change is pending, else the other phase (R143, R144). -/
def exchanged (c : EpCfg) (now : Tick) (ph pending : Bool) : Pair :=
  if pending then .static else .antiphase (!ph) (addTicks now (msTicks c.half)) false

theorem exchangeStep_due {now due : Tick} (h : isDue now due = true) (c : EpCfg) (ph pending : Bool) :
    exchangeStep c now (.antiphase ph due pending) = exchanged c now ph pending :=
  if_pos h

/-- A due exchange always changes the pair. -/
theorem exchanged_ne (c : EpCfg) (now due : Tick) (ph pending : Bool) :
    exchanged c now ph pending ≠ .antiphase ph due pending := by
  cases pending <;> simp [exchanged]

theorem pairLevels_exchanged (c : EpCfg) (now : Tick) (ph pending : Bool) :
    pairLevels c (exchanged c now ph pending) = (if pending then true else !ph, if pending then false else ph) := by
  cases pending <;> simp [exchanged, pairLevels]

/-- The outputs after a pair has become `p` and only EP0 and EP1 have been driven for it (R143, R147; log 4). -/
def outputsWithPair (s : State) (p : Pair) : Outputs :=
  { driveLevels (withPairOf (commandedLevels s.prof.running.ep s.sup p) s.out.level) s.out with pair := p }

/-- EP0 and EP1 show the pair, and every other output stays (R142; log 4). -/
theorem outputsWithPair_level {s : State} (h : s.sup.state ≠ .init) (p : Pair) :
    (outputsWithPair s p).level.getLsbD 4 = (pairLevels s.prof.running.ep p).1 ∧
      (outputsWithPair s p).level.getLsbD 5 = (pairLevels s.prof.running.ep p).2 ∧
      ∀ j : Fin 8, j.val ≠ 4 → j.val ≠ 5 → (outputsWithPair s p).level.getLsbD j.val = s.out.level.getLsbD j.val := by
  obtain ⟨hpin4, hpin5⟩ := withPairOf_pins (commandedLevels s.prof.running.ep s.sup p) s.out.level
  obtain ⟨hep0, hep1⟩ := commandedLevels_pair h s.prof.running.ep p
  exact ⟨hpin4.trans hep0, hpin5.trans hep1, fun _ h4 h5 => withPairOf_others _ _ h4 h5⟩

theorem exchangeNow_due {ph pending : Bool} {due : Tick} {s : State} (hp : s.out.pair = .antiphase ph due pending)
    (hn : pairNeed s.sup.state s.sup.active = .healthy) (hd : isDue s.now due = true) :
    exchangeNow s = s.setOut (outputsWithPair s (exchanged s.prof.running.ep s.now ph pending)) := by
  have hstep : exchangeStep s.prof.running.ep s.now s.out.pair = exchanged s.prof.running.ep s.now ph pending := by
    rw [hp, exchangeStep_due hd]
  have hne : exchanged s.prof.running.ep s.now ph pending ≠ s.out.pair := hp ▸ exchanged_ne _ _ _ _ _
  unfold exchangeNow
  simp only [hstep]
  exact if_pos ⟨hn, hne⟩

/-- A pair that must be healthy is outside INIT (R141). -/
theorem not_init_of_healthy {x : SupState} {a : ActivePlan} (h : pairNeed x a = .healthy) : x ≠ .init := by
  rintro rfl
  cases h

/-- Settles O39: the row leaves `outputsWithPair` of the exchanged pair, whose levels are `outputsWithPair_level`. -/
theorem exchangeSwapsPhases : Obligations.ExchangeSwapsPhases := by
  intro ph due pending s hr hp hn hd
  obtain ⟨hep0, hep1, hothers⟩ :=
    outputsWithPair_level (not_init_of_healthy hn) (exchanged s.prof.running.ep s.now ph pending)
  rw [pairLevels_exchanged] at hep0 hep1
  refine ⟨_, congrArg Host.Outcome.next (inBatch_running hr), only_exchangeNow s, ?_⟩
  rw [exchangeNow_due hp hn hd]
  exact ⟨rfl, rfl, hep0, hep1, hothers, driveLevels_comps _ _⟩

end Sys2Proof.Machine
end

section
/-!
PROOF. Configuration sessions: the unlock steps, the ends of a session without an APPLY, its commit, the counts, and the two
timers that end it.
-/

namespace Sys2Proof.Machine

set_option Elab.async false

/-! ### Conditions and the store -/

/-- Of the store the units' conditions follow from the running configuration and the default flag alone (section 4.1). -/
theorem unitCond_setProf {s : State} {x : ProfileStore} (hrun : x.running = s.prof.running) (hdflt : x.dflt = s.prof.dflt)
    (i : SrcId) : unitCond (s.setProf x) i = unitCond s i := by
  simp only [unitCond, setProf_fl, setProf_hb, setProf_link, setProf_port, setProf_wd, setProf_out, setProf_st, setProf_jrn,
    setProf_clk, setProf_sw, setProf_prof, hrun, hdflt]
  rfl

/-! ### OPEN_SESSION -/

section

variable {v : Byte} {due : Tick} {p : Profile} {s : State}

theorem doOpenSession_locked (hl : s.prof.running.profLock = true) : doOpenSession (v.setWidth 24) s = plainOut .locked s :=
  if_pos hl

theorem doOpenSession_open (hl : ¬ s.prof.running.profLock = true) (hs : s.prof.session = .opn due p) :
    doOpenSession (v.setWidth 24) s = refuse .unlockSequence s := by
  simp [doOpenSession, hl, hs]

theorem doOpenSession_closed (hl : ¬ s.prof.running.profLock = true) (hs : s.prof.session = .closed) :
    doOpenSession (v.setWidth 24) s =
      if v = 0xC3 then okWith 1 (s.setProf { s.prof with session := .unlocking (addTicks s.now unlockWindow) })
      else refuse .unlockSequence s := by
  simp [doOpenSession, hl, hs]

theorem doOpenSession_unlocking (hl : ¬ s.prof.running.profLock = true) (hs : s.prof.session = .unlocking due) :
    doOpenSession (v.setWidth 24) s =
      if v = 0x3C then okWith 2 (openNow s) else refuse .unlockSequence (closeSession s) := by
  simp [doOpenSession, hl, hs]

end

/-- The store and the journal once a session is open; the records are as they were (R157, R170). -/
theorem openNow_effect (s : State) :
    (openNow s).prof = { s.prof with session := .opn (addTicks s.now sessionLimit) s.prof.running } ∧
      (openNow s).src = s.src ∧ journaled [.session .opened] s (openNow s) ∧ runAborted s (openNow s) := by
  have hrun := only_abortSelftest (writeRec (.session .opened)
    (s.setProf { s.prof with session := .opn (addTicks s.now sessionLimit) s.prof.running }))
  exact ⟨hrun.same .prof, hrun.same .src, Eq.trans (hrun.same .jrn) (writeRec_jrn_congr _ rfl rfl rfl rfl),
    abortSelftest_runAborted _⟩

section

variable {h : FrameHead} {arg : BitVec 24} {s : State} {res : Res} {data : BitVec 24}

/-- The frame of an executed OPEN_SESSION whose rule leaves `w`. It is the one command that cancels no unlock step (R156), so that
`command_outcome` does not speak of it. -/
theorem openSession_outcome (l : List Part) (w : State) (he : executes .openSession h arg s = true)
    (ho : doOpenSession arg (accepted h s) = { st := w, res := res, data := data, reset := false })
    (hl : onlyParts (.prof :: l) (accepted h s) w) (hp : decide (Part.port ∈ l) = false)
    (hrest : onlyParts (.port :: .attn :: .crit :: .prof :: l) w (afterRule (accepted h s) w h.tag res data)) :
    exec (.openSession h arg) s = .next (afterRule (accepted h s) w h.tag res data) ∧
      commandDone l h res data s (afterRule (accepted h s) w h.tag res data) := by
  have hport : w.port = (accepted h s).port := hl .port (by simpa using hp)
  refine ⟨congrArg Host.Outcome.next ((cmdFrame_executes he).trans (execute_openSession _ ho rfl)), ?_,
    flagsCurrent_afterRule _ _ _ _ _, (only_from_accepted hl).trans hrest⟩
  rw [answered, afterRule_port, hport, accepted_port]

/-- An OPEN_SESSION that leaves the running configuration and the default flag as they were: no unit's condition changes. -/
theorem openSession_storeOnly {x : ProfileStore} (he : executes .openSession h arg s = true)
    (ho : doOpenSession arg (accepted h s) =
      { st := (accepted h s).setProf x, res := res, data := data, reset := false })
    (hrun : x.running = s.prof.running) (hdflt : x.dflt = s.prof.dflt) :
    ∃ t, exec (.openSession h arg) s = .next t ∧ commandDone [] h res data s t ∧ t.prof = x := by
  have hcond (i : SrcId) : unitCond (accepted h s) i = unitCond ((accepted h s).setProf x) i :=
    (unitCond_setProf (s := accepted h s) hrun hdflt i).symm
  have hrest : onlyParts [.port, .attn, .crit, .prof] ((accepted h s).setProf x)
      (afterRule (accepted h s) ((accepted h s).setProf x) h.tag res data) := by
    intro q hq
    by_cases hsrc : q = .src
    · subst hsrc
      exact afterRule_src_same _ _ _ _ _ hcond
    · exact only_afterRule _ _ _ _ _ q (by simp_all)
  obtain ⟨ht, hdone⟩ := openSession_outcome [] _ he ho (only_setProf _ _) rfl hrest
  exact ⟨_, ht, hdone, (only_afterRule _ _ _ _ _).same .prof⟩

/-- An OPEN_SESSION whose rule changes nothing. -/
theorem openSession_kept (he : executes .openSession h arg s = true)
    (ho : doOpenSession arg (accepted h s) = { st := accepted h s, res := res, data := data, reset := false }) :
    ∃ t, exec (.openSession h arg) s = .next t ∧ commandDone [] h res data s t ∧ t.prof = s.prof :=
  openSession_storeOnly he (by rw [ho, ← accepted_prof h s, setProf_self]) rfl rfl

/-- The second unlock step opens a session (R157, R170). -/
theorem openSession_opens (he : executes .openSession h arg s = true)
    (ho : doOpenSession arg (accepted h s) = okWith 2 (openNow (accepted h s))) :
    ∃ t, exec (.openSession h arg) s = .next t ∧ commandDone [.jrn, .st, .src] h .ok 2 s t ∧ srcFollows s.src s t ∧
      t.prof = { s.prof with session := .opn (addTicks s.now 50000) s.prof.running } ∧
      journaled [.session .opened] s t ∧ runAborted s t := by
  have hrest := only_afterRule (accepted h s) (openNow (accepted h s)) h.tag .ok 2
  obtain ⟨ht, hdone⟩ := openSession_outcome [.jrn, .st, .src] _ he ho (only_openNow _).mono rfl hrest.mono
  obtain ⟨hprof, hsrc, hjrn, hst⟩ := openNow_effect (accepted h s)
  have hfollows := srcFollows_afterRule (accepted h s) (openNow (accepted h s)) h.tag .ok 2
  refine ⟨_, ht, hdone, ?_, Eq.trans (hrest.same .prof) hprof,
    Eq.trans (hrest.same .jrn) (Eq.trans hjrn (writeRec_jrn_congr _ rfl rfl rfl rfl)), Eq.trans (hrest.same .st) hst⟩
  rw [hsrc] at hfollows
  unfold srcFollows at hfollows ⊢
  simpa only [unitCond_accepted, accepted_src] using hfollows

end

/-- Settles O29: the lock first, then the three states of the session; only the last unlock step moves more than the session. -/
theorem openSessionInTwoSteps : Obligations.OpenSessionInTwoSteps := by
  intro h v s he
  by_cases hlock : s.prof.running.profLock = true
  · simp only [if_pos hlock]
    exact openSession_kept he (doOpenSession_locked (s := accepted h s) hlock)
  simp only [if_neg hlock]
  cases hs : s.prof.session with
  | opn due p => exact openSession_kept he (doOpenSession_open (s := accepted h s) hlock hs)
  | closed =>
    have hrule := doOpenSession_closed (v := v) (s := accepted h s) hlock hs
    by_cases hv : v = 0xC3
    · simp only [if_pos hv] at hrule ⊢
      exact openSession_storeOnly he hrule rfl rfl
    · simp only [if_neg hv] at hrule ⊢
      exact openSession_kept he hrule
  | unlocking due =>
    have hrule := doOpenSession_unlocking (v := v) (s := accepted h s) hlock hs
    by_cases hv : v = 0x3C
    · simp only [if_pos hv] at hrule ⊢
      exact openSession_opens he hrule
    · simp only [if_neg hv] at hrule ⊢
      exact openSession_storeOnly he hrule rfl rfl

/-! ### CLOSE_DISCARD and COMMIT_PROFILE -/

/-- CLOSE_DISCARD without a commit outstanding closes the session with its record (R159). -/
theorem closeDiscard_closes {h : FrameHead} {s : State} (he : executes .closeDiscard h 0 s = true)
    (hb : s.prof.commit ≠ .busy) :
    ∃ t, exec (.closeDiscard h 0) s = .next t ∧ commandDone [.jrn, .src] h .ok 0 s t ∧
      t.prof = { s.prof with session := .closed } ∧ srcFollows s.src s t ∧ journaled [.session .discard] s t := by
  have hrule : doCloseDiscard (accepted h s) = okOut (closeSession (writeRec (.session .discard) (accepted h s))) :=
    if_neg (by simpa [commitBusy] using hb)
  obtain ⟨t, ht, d⟩ := command_outcome [.jrn, .src] _ he nofun hrule
    (.trans (only_writeRec _ _).mono (only_closeSession _).mono) rfl (.inl (by decide))
  exact ⟨t, congrArg Host.Outcome.next ht, d.done, d.prof.trans (congrArg State.prof (cancelUnlock_of_closed rfl)), d.srcf,
    Eq.trans (d.rest.same .jrn) (writeRec_jrn_congr _ rfl rfl rfl rfl)⟩

theorem doCommit_refused {due : Tick} {p : Profile} {s : State} {r : Reason} (hs : s.prof.session = .opn due p)
    (hb : applyBlock p s = some r) : doCommit s = refuse r s := by
  simp [doCommit, hs, hb]

theorem doCommit_requests {due : Tick} {p : Profile} {s : State} (hs : s.prof.session = .opn due p)
    (hb : applyBlock p s = none) :
    doCommit s = okWith (bankIdCode (targetBank s.prof.curBank) ++ (s.prof.gen + 1)) (requestCommit p s) := by
  simp [doCommit, hs, hb]

/-- The bank that is not the current one (R160). -/
theorem targetBank_eq (cur : Option BankId) : targetBank cur = if cur = some .bankA then .bankB else .bankA := by
  rcases cur with _ | _ | _ <;> rfl

theorem bankIdCode_eq (b : BankId) : bankIdCode b = if b = .bankA then (0 : Byte) else 1 := by cases b <;> rfl

/-- The store when a commit to bank `b` is requested: its marker goes if the commit begins at once (R152, R160; log 26). -/
def storeAsked (b : BankId) (c : NvCtrl) (x : ProfileStore) : ProfileStore := if c.cur = none then removeMarker b x else x

/-- A request for a commit moves nothing of the store but a bank's marker. -/
theorem storeAsked_fields (b : BankId) (c : NvCtrl) (x : ProfileStore) : (storeAsked b c x).running = x.running ∧
    (storeAsked b c x).dflt = x.dflt ∧ (storeAsked b c x).session = x.session := by
  unfold storeAsked
  split
  · cases b <;> exact ⟨rfl, rfl, rfl⟩
  · exact ⟨rfl, rfl, rfl⟩

/-- A commit that is requested begins at once when the controller idles, and waits otherwise (R160, R164). -/
theorem nvRequest_commit {s : State} (b : BankId) (g : Word) (p : Profile) (h : NvInv s) :
    nvRequest (.commit b g p) s = (s.setNv (nvAsked (.commit b g p) s)).setProf (storeAsked b s.nv s.prof) := by
  unfold nvAsked requested storeAsked
  by_cases hc : s.nv.cur = none
  · rw [nvRequest_idle _ hc, if_pos hc, h hc, hc]
    rfl
  · obtain ⟨x, hx⟩ := Option.ne_none_iff_exists'.mp hc
    rw [nvRequest_busy _ hc, if_neg hc]
    simp only [hx]
    exact (setProf_self _).symm

/-- The state once the commit of a staging copy is requested (R160). -/
theorem requestCommit_eq {p : Profile} {s : State} (h : NvInv s) :
    requestCommit p s =
      (s.setNv (nvAsked (.commit (targetBank s.prof.curBank) (s.prof.gen + 1) p) s)).setProf
        (storeAsked (targetBank s.prof.curBank) s.nv { s.prof with commit := .busy }) :=
  nvRequest_commit (s := s.setProf { s.prof with commit := .busy }) _ _ _ h

theorem commit_requested {h : FrameHead} {due : Tick} {p : Profile} {s : State} (hinv : NvInv s)
    (hs : s.prof.session = .opn due p) (he : executes .commitProfile h 0 s = true) (hb : applyBlock p s = none) :
    ∃ t, exec (.commitProfile h 0) s = .next t ∧
      commandDone [.nv] h .ok (bankIdCode (targetBank s.prof.curBank) ++ (s.prof.gen + 1)) s t ∧ t.src = s.src ∧
      t.nv = nvAsked (.commit (targetBank s.prof.curBank) (s.prof.gen + 1) p) s ∧
      t.prof = storeAsked (targetBank s.prof.curBank) s.nv { s.prof with commit := .busy } := by
  obtain ⟨hrun, hdflt, hsess⟩ := storeAsked_fields (targetBank s.prof.curBank) s.nv { s.prof with commit := .busy }
  have hrule := doCommit_requests (s := accepted h s) hs hb
  rw [requestCommit_eq (s := accepted h s) hinv] at hrule
  have hcond (i : SrcId) : unitCond s i = unitCond
      (((accepted h s).setNv (nvAsked (.commit (targetBank s.prof.curBank) (s.prof.gen + 1) p) s)).setProf
        (storeAsked (targetBank s.prof.curBank) s.nv { s.prof with commit := .busy })) i :=
    ((unitCond_setProf hrun hdflt i).trans ((unitCond_setNv _ _ i).trans (unitCond_accepted h s i))).symm
  obtain ⟨t, ht, d⟩ := command_outcome [.nv] _ he nofun hrule (.trans (only_setNv _ _).mono (only_setProf _ _).mono) rfl
    (.inr hcond)
  refine ⟨t, congrArg Host.Outcome.next ht, d.done, d.same hcond, d.rest.same .nv, d.prof.trans (cancelUnlock_of_open ?_)⟩
  exact (sessionOpen_iff _).mpr ⟨due, p, hsess.trans hs⟩

/-- Settles O31: the refusals by `command_refused`, CLOSE_DISCARD by what a closed session leaves, and COMMIT_PROFILE by what its
request makes of the controller and of the store (`requestCommit_eq`). -/
theorem discardAndCommitOfASession : Obligations.DiscardAndCommitOfASession := by
  refine ⟨fun h s he => ?discard, fun h due p s hinv hs he => ?commit⟩
  case discard =>
    by_cases hbusy : s.prof.commit = .busy
    · have hrule : doCloseDiscard (accepted h s) = refuse .commitBusy (accepted h s) := if_pos (by simp [commitBusy, hbusy])
      obtain ⟨t, ht, href, -⟩ := command_refused he nofun hrule
      exact ⟨t, congrArg Host.Outcome.next ht, (if_pos hbusy).mpr href⟩
    · simp only [if_neg hbusy]
      exact closeDiscard_closes he hbusy
  case commit =>
    have hblock := applyBlock_eq p s
    have hrefuse {r : Reason} (hb : applyBlock p s = some r) :
        ∃ t, exec (.commitProfile h 0) s = .next t ∧ commandRefused r h s t := by
      obtain ⟨t, ht, href, -⟩ := command_refused he nofun (doCommit_refused (s := accepted h s) hs hb)
      exact ⟨t, congrArg Host.Outcome.next ht, href⟩
    by_cases hbusy : s.prof.commit = .busy
    · simp only [if_pos hbusy] at hblock ⊢
      exact hrefuse hblock
    by_cases hwin : badHbWindow p = true
    · simp only [if_neg hbusy, if_pos hwin] at hblock ⊢
      exact hrefuse hblock
    by_cases halarm : badAlarmTime p = true
    · simp only [if_neg hbusy, if_neg hwin, if_pos halarm] at hblock ⊢
      exact hrefuse hblock
    simp only [if_neg hbusy, if_neg hwin, if_neg halarm] at hblock ⊢
    rw [← targetBank_eq, ← bankIdCode_eq]
    exact commit_requested hinv hs he hblock

/-! ### RESET_COUNTS -/

/-- A COUNT of 0 promotes no source (R65). -/
theorem promotedBy_zero (d : Desc) : promotedBy d 0 = false := by
  have hzero : d.promoteAt.toNat = 0 → d.promoteAt = 0 := fun h => BitVec.eq_of_toNat_eq h
  simp only [promotedBy, Bool.and_eq_false_iff, bne_eq_false_iff_eq, decide_eq_false_iff_not]
  by_cases h : d.promoteAt.toNat = 0
  · exact .inl (hzero h)
  · exact .inr (by simpa using h)

/-- A command outside its states consumes its tag and is rejected with REJ_STATE (R15). -/
theorem rejected_notPermitted {c : Cmd} {h : FrameHead} {arg : BitVec 24} {s : State} (ho : portOpen h.start s = true)
    (hn : tagIsNew s h.tag = true) (hp : permitted c s.sup.state (sessionOpen s) = false) :
    cmdFrame c h arg s = rejectNew h.tag .rejState (accepted h s) := by
  rw [cmdFrame, commandFrame_new h _ _ _ ho hn, cmdOf_cmdCode]
  simp [judgeCommand, hp]

/-- Settles O32: in a session the rule replaces the records alone, and outside one the command is not permitted. -/
theorem resetCountsClearsCounts : Obligations.ResetCountsClearsCounts := by
  refine ⟨fun h s he => ?cleared, fun h s ho hn hclosed => ?rejected⟩
  case cleared =>
    obtain ⟨-, hopen⟩ : inCalmOrSafe s.sup.state = true ∧ sessionOpen s = true := by
      simpa [permitted] using permitted_of_executes he
    obtain ⟨t, ht, hdone, hunlock, hsrc⟩ := setSrc_outcome he nofun rfl
    refine ⟨t, congrArg Host.Outcome.next ht, hdone, hunlock.trans (cancelUnlock_of_open hopen), fun i => ?_⟩
    rw [hsrc, recomputePromoted, vget_vmap, vget_vmap, promotedBy_zero]
    rfl
  case rejected =>
    have hrej := rejected_notPermitted (c := .resetCounts) (arg := 0) ho hn (by simp [permitted, hclosed])
    refine ⟨_, congrArg Host.Outcome.next hrej, (only_accepted h s).trans (only_rejectNew _ _ _), ?_⟩
    rw [rejectNew_port]

/-! ### The timers of a session -/

/-- No request of a session's commit is left once it has been taken from the controller (R161). -/
theorem withoutCommit_holds_no_commit (s : State) (b : BankId) (g : Word) (p : Profile) :
    NvOp.commit b g p ∉ (withoutCommit s).queue ∧ ∀ k, (withoutCommit s).cur ≠ some (.commit b g p, k) := by
  have hrest : NvOp.commit b g p ∉ s.nv.queue.filter (fun op => !isCommit op) := fun hm => nomatch noCommit_filter _ _ hm
  unfold withoutCommit
  simp only []
  split
  case isTrue =>
    split
    · exact ⟨List.not_mem_nil, nofun⟩
    · rename_i op rest hq
      rw [hq, List.mem_cons, not_or] at hrest
      exact ⟨hrest.2, fun k hk => hrest.1 (congrArg Prod.fst (Option.some.inj hk)).symm⟩
  case isFalse hno =>
    refine ⟨hrest, fun k (hk : s.nv.cur = _) => hno ?_⟩
    cases b <;> simp [committing, hk]

theorem abandonCommit_busy {s : State} (h : s.prof.commit = .busy) :
    abandonCommit s = nvDropCommit (s.setProf { s.prof with commit := .abandoned }) := by
  simp only [abandonCommit, h]

theorem abandonCommit_kept {s : State} (h : s.prof.commit ≠ .busy) : abandonCommit s = s := by
  unfold abandonCommit
  split
  · exact absurd ‹_› h
  · rfl

theorem timeoutSession_jrn (s : State) : journaled [.session .timeout] s (timeoutSession s) :=
  Eq.trans ((only_abandonCommit _).same .jrn) (writeRec_jrn_congr _ rfl rfl rfl rfl)

/-- A session that times out without a commit only closes (R157). -/
theorem timeoutSession_noCommit {s : State} (h : s.prof.commit ≠ .busy) :
    timeoutSession s = writeRec (.session .timeout) (closeSession s) := abandonCommit_kept h

/-- A session that times out over its commit abandons it: what that leaves of the controller and of the banks (R157, R161). -/
theorem timeoutSession_commit {s : State} (h : s.prof.commit = .busy) :
    (timeoutSession s).nv = withoutCommit s ∧
      (timeoutSession s).prof = { s.prof with
        session := .closed, commit := .abandoned
        bankA := (timeoutSession s).prof.bankA, bankB := (timeoutSession s).prof.bankB } ∧
      ∀ b, (committing b s = false → bankOf b (timeoutSession s).prof = bankOf b s.prof) ∧
        (committing b s = true → bankUnusable b (timeoutSession s)) := by
  rw [timeoutSession, abandonCommit_busy (s := writeRec (.session .timeout) (closeSession s)) h]
  exact nvDropCommit_effect _

theorem stepUnlock_due {due : Tick} {s : State} (hs : s.prof.session = .unlocking due) (hd : isDue s.now due = true) :
    stepUnlock s = closeSession s := by
  simp only [stepUnlock, hs, hd, if_true]

theorem stepSessionLimit_due {due : Tick} {p : Profile} {s : State} (hs : s.prof.session = .opn due p)
    (hd : isDue s.now due = true) : stepSessionLimit s = timeoutSession s := by
  simp only [stepSessionLimit, hs, hd, if_true]

/-- Settles O51: a due timer takes its step; the session limit with and without a commit to abandon. -/
theorem sessionTimersRunOut : Obligations.SessionTimersRunOut := by
  refine ⟨fun due s hr hs hd => ?window, fun due p s hr hs hd => ?limit⟩
  case window =>
    refine ⟨_, congrArg Host.Outcome.next (inStageD_running hr), ?_⟩
    rw [stepUnlock_due hs hd]
    rfl
  case limit =>
    refine ⟨_, congrArg Host.Outcome.next (inStageD_running hr), ?_⟩
    rw [stepSessionLimit_due hs hd]
    refine ⟨.trans (only_timeoutSession s).mono (only_refreshCrit _).mono, ?_⟩
    have hjrn := timeoutSession_jrn s
    by_cases hbusy : s.prof.commit = .busy
    · obtain ⟨hnv, hprof, hbanks⟩ := timeoutSession_commit hbusy
      rw [if_pos hbusy]
      refine ⟨congrArg ProfileStore.session hprof, (congrArg ProfileStore.running hprof :),
        (congrArg ProfileStore.gen hprof :), (congrArg ProfileStore.curBank hprof :), hjrn,
        congrArg ProfileStore.commit hprof, fun _ => ⟨fun b' g' p' => ?_, hbanks, hnv⟩, fun hno => absurd hbusy hno⟩
      have hno := withoutCommit_holds_no_commit s b' g' p'
      rwa [← hnv] at hno
    · rw [if_neg hbusy]
      rw [timeoutSession_noCommit hbusy] at hjrn ⊢
      exact ⟨rfl, rfl, rfl, rfl, hjrn, rfl, fun hyes => absurd hyes hbusy, fun _ => ⟨rfl, rfl, rfl⟩⟩

end Sys2Proof.Machine
end

section
/-!
PROOF. The configuration registers: a value that is in its register's range is read back from the fields it was written to, and
no other register shows those fields.
-/

namespace Sys2Proof.Machine

set_option Elab.async false

/-! ### The fields of a word -/

section

variable {x : Word}

theorem b1_getLsbD (i : Nat) : b1 (x.getLsbD i) = x.extractLsb' i 1 := by
  apply BitVec.eq_of_getLsbD_eq
  intro j hj
  obtain rfl : j = 0 := by omega
  cases h : x.getLsbD i <;> simp [b1, bit, h]

/-- A field of one bit that stands for one of two values. -/
theorem b1_choice {α : Type} [DecidableEq α] {a b : α} (hab : b ≠ a) (i : Nat) :
    b1 ((if x.getLsbD i then a else b) == a) = x.extractLsb' i 1 := by
  rw [← b1_getLsbD]
  cases x.getLsbD i
  · exact congrArg b1 (beq_false_of_ne hab)
  · exact congrArg b1 (beq_self_eq_true a)

theorem clsCode_clsOf {c : BitVec 2} (h : c ≠ 0) : clsCode (clsOf c) = c := by
  revert c
  decide

theorem edgeCode_edgeOf {e : BitVec 2} (h : e ≠ 3) : edgeCode (edgeOf e) = e := by
  revert e
  decide

theorem ofNat_nodeOf (b : BitVec 3) : BitVec.ofNat 3 (nodeOf b).val = b := by simp [nodeOf]

/-- A field that the layout does not assign is 0 in a value within its range (R178). -/
theorem extract_clear {mask : Word} {start l : Nat} (h : clearBits x mask = true)
    (hm : mask.extractLsb' start l = BitVec.allOnes l) : x.extractLsb' start l = 0 := by
  have hz : x &&& mask = 0 := eq_of_beq h
  rw [← BitVec.and_allOnes (x := x.extractLsb' start l), ← hm, ← BitVec.extractLsb'_and, hz]
  simp

/-- The field from bit 0 to bit 15 is the word. -/
theorem extract_whole : x.extractLsb' 0 16 = x := by simp

/-- A word is its high byte and its low byte. -/
theorem bytes_append : x.extractLsb' 8 8 ++ x.extractLsb' 0 8 = x := by
  simp only [BitVec.extractLsb'_append_extractLsb'_eq_extractLsb']
  exact extract_whole

/-- A value below 256 is its low byte. -/
theorem lowByte_append (h : clearBits x 0xFF00 = true) : (0 : BitVec 8) ++ x.extractLsb' 0 8 = x := by
  rw [← extract_clear (start := 8) h rfl]
  exact bytes_append

end

/-! ### The layouts of R182, written and read back -/

section

variable {x : Word} {page : Bool}

theorem viewEdtW0_write (h : (x.extractLsb' 13 2 != 0) = true) (d : Desc) : viewEdtW0 (writeEdtW0 x d) = x := by
  simp only [viewEdtW0, writeEdtW0, b1_getLsbD, clsCode_clsOf (bne_iff_ne.mp h), ofNat_nodeOf,
    b1_choice (show Recovery.auto ≠ .host from nofun), BitVec.extractLsb'_append_extractLsb'_eq_extractLsb']
  exact extract_whole

theorem viewPlanW0_write (h : clearBits x 0xFE00 = true) (p : Plan) : viewPlanW0 (writePlanW0 x p) = x := by
  rw [viewPlanW0, ← extract_clear (start := 9) h rfl]
  simp only [writePlanW0, b1_getLsbD, BitVec.extractLsb'_append_extractLsb'_eq_extractLsb']
  exact extract_whole

theorem viewFlCfg_read (h : clearBits x 0xFF80 = true) : viewFlCfg (readFlCfg x) = x := by
  rw [viewFlCfg, ← extract_clear (start := 7) h rfl]
  simp only [readFlCfg, b1_getLsbD, b1_choice (show FlMode.level ≠ .pulse from nofun),
    BitVec.extractLsb'_append_extractLsb'_eq_extractLsb']
  exact extract_whole

theorem viewHbCfg_write (h : (if page then x != 0 else clearBits x 0x7FFC && x.extractLsb' 0 2 != 3) = true) (c : HbCfg) :
    viewHbCfg page (writeHbCfg page x c) = x := by
  cases page with
  | true => rfl
  | false =>
    obtain ⟨hclear, hedge⟩ := Bool.and_eq_true_iff.mp h
    simp only [viewHbCfg, writeHbCfg, Bool.false_eq_true, if_false, edgeCode_edgeOf (bne_iff_ne.mp hedge)]
    rw [← extract_clear (start := 2) hclear rfl]
    simp only [b1_getLsbD, BitVec.extractLsb'_append_extractLsb'_eq_extractLsb']
    exact extract_whole

theorem viewLinkCfg_write (h : clearBits x 0x3800 = true) (c : LinkCfg) : viewLinkCfg (writeLinkCfg x c) = x := by
  rw [viewLinkCfg, ← extract_clear (start := 11) h rfl]
  simp only [writeLinkCfg, b1_getLsbD, ofNat_nodeOf, BitVec.extractLsb'_append_extractLsb'_eq_extractLsb']
  exact extract_whole

theorem viewLinkCfg2_write (h : (if page then clearBits x 0xFFF0 && x != 0 else lowByte x != 0 && highByte x != 0) = true)
    (c : LinkCfg) : viewLinkCfg2 page (writeLinkCfg2 page x c) = x := by
  cases page with
  | true =>
    obtain ⟨hclear, -⟩ := Bool.and_eq_true_iff.mp h
    simp only [viewLinkCfg2, writeLinkCfg2, if_true]
    rw [← extract_clear (start := 4) hclear rfl]
    simp only [BitVec.extractLsb'_append_extractLsb'_eq_extractLsb']
    exact extract_whole
  | false => exact bytes_append

theorem viewWdCfg_write (h : (clearBits x 0x7800 && x.extractLsb' 8 3 != 0) = true) (c : WdCfg) :
    viewWdCfg (writeWdCfg x c) = x := by
  obtain ⟨hclear, -⟩ := Bool.and_eq_true_iff.mp h
  rw [viewWdCfg, ← extract_clear (start := 11) hclear rfl]
  simp only [writeWdCfg, b1_getLsbD, BitVec.extractLsb'_append_extractLsb'_eq_extractLsb']
  exact extract_whole

theorem viewWdCfg2_write
    (h : (if page then clearBits x 0xFF00 && lowByte x != 0 else lowByte x != 0 && highByte x != 0) = true) (c : WdCfg) :
    viewWdCfg2 page (writeWdCfg2 page x c) = x := by
  cases page with
  | true => exact lowByte_append (Bool.and_eq_true_iff.mp h).1
  | false => exact bytes_append

theorem viewEpCfg_write (h : (if page then clearBits x 0xFF00 else clearBits x 0x7F00 && lowByte x != 0) = true) (c : EpCfg) :
    viewEpCfg page (writeEpCfg page x c) = x := by
  cases page with
  | true => exact lowByte_append h
  | false =>
    obtain ⟨hclear, -⟩ := Bool.and_eq_true_iff.mp h
    simp only [viewEpCfg, writeEpCfg, Bool.false_eq_true, if_false, b1_choice (show EpProto.static ≠ .antiphase from nofun)]
    rw [← extract_clear (start := 8) hclear rfl]
    simp only [BitVec.extractLsb'_append_extractLsb'_eq_extractLsb']
    exact extract_whole

theorem viewSupCfg_write (h : (clearBits x 0xFC00 && lowByte x != 0 && x.extractLsb' 8 2 != 0) = true) :
    viewSupCfg { ackLimit := x.extractLsb' 0 8, escCeiling := x.extractLsb' 8 2 } = x := by
  obtain ⟨hboth, -⟩ := Bool.and_eq_true_iff.mp h
  obtain ⟨hclear, -⟩ := Bool.and_eq_true_iff.mp hboth
  rw [viewSupCfg, ← extract_clear (start := 10) hclear rfl]
  simp only [BitVec.extractLsb'_append_extractLsb'_eq_extractLsb']
  exact extract_whole

theorem viewOsvCfg_write (h : (clearBits x 0xF000 && x.extractLsb' 8 4 != 0) = true) :
    viewOsvCfg { mask := x.extractLsb' 0 8, filter := x.extractLsb' 8 4 } = x := by
  obtain ⟨hclear, -⟩ := Bool.and_eq_true_iff.mp h
  rw [viewOsvCfg, ← extract_clear (start := 12) hclear rfl]
  simp only [BitVec.extractLsb'_append_extractLsb'_eq_extractLsb']
  exact extract_whole

theorem viewJrnCfg_read (h : (clearBits x 0x7FC0 && decide ((x.extractLsb' 0 6).toNat ≤ 32)) = true) :
    viewJrnCfg (readJrnCfg x) = x := by
  obtain ⟨hclear, -⟩ := Bool.and_eq_true_iff.mp h
  rw [viewJrnCfg, ← extract_clear (start := 6) hclear rfl]
  simp only [readJrnCfg, b1_choice (show JrnPolicy.keepOldest ≠ .keepNewest from nofun),
    BitVec.extractLsb'_append_extractLsb'_eq_extractLsb']
  exact extract_whole

theorem viewProfCfg_write (h : clearBits x 0x7FFE = true) (p : Profile) :
    viewProfCfg { p with stAtInit := x.getLsbD 0, profLock := x.getLsbD 15 } = x := by
  rw [viewProfCfg, ← extract_clear (start := 1) h rfl]
  simp only [b1_getLsbD, BitVec.extractLsb'_append_extractLsb'_eq_extractLsb']
  exact extract_whole

end

/-! ### The configuration registers -/

/-- The addresses of the configuration registers (R182). -/
def csAddrs : List Byte :=
  [0x81, 0x82, 0x85, 0x86, 0x87, 0x89, 0x8D, 0x8E, 0x90, 0x91, 0x94, 0x95, 0x98, 0x99, 0x9A, 0x9C, 0x9E]

theorem mem_csAddrs {addr : Byte} (h : regAccess addr = some .cs) : addr ∈ csAddrs := by
  revert addr
  decide

theorem ofNat_mem_csAddrs {addr : Byte} {n : Nat} (h : addr ∈ csAddrs) (hn : addr.toNat = n) : BitVec.ofNat 8 n ∈ csAddrs := by
  rw [← hn, BitVec.ofNat_toNat, BitVec.setWidth_eq]
  exact h

theorem regValue_cs {addr : Byte} (h : addr ∈ csAddrs) (s : State) : regValue s addr = viewCs addr s.sel (csProfile s) := by
  unfold regValue
  split
  case h_63 => rfl
  all_goals exact absurd (ofNat_mem_csAddrs h ‹_›) (by decide)

theorem writeEffect_cs {addr : Byte} (h : addr ∈ csAddrs) (x : Word) (s : State) :
    writeEffect addr x s = writeStaging addr x s := by
  unfold writeEffect
  split
  case h_10 => rfl
  all_goals exact absurd (ofNat_mem_csAddrs h ‹_›) (by decide)

theorem csProfile_open {due : Tick} {p : Profile} {s : State} (hs : s.prof.session = .opn due p) : csProfile s = p := by
  simp only [csProfile, hs]

theorem writeStaging_open {due : Tick} {p : Profile} {s : State} (hs : s.prof.session = .opn due p) (addr : Byte) (x : Word) :
    writeStaging addr x s = s.setProf { s.prof with session := .opn due (writeCs addr s.sel x p) } := by
  simp only [writeStaging, hs]

/-- A value within the range of its register is read back, register by register (R178, R179, R182). -/
theorem viewCs_writeCs_self {addr : Byte} {q : Selectors} {x : Word} (h : addr ∈ csAddrs)
    (hx : writeValueOk addr q.page x = true) (p : Profile) : viewCs addr q (writeCs addr q x p) = x := by
  simp only [csAddrs, List.mem_cons, List.not_mem_nil, or_false] at h
  rcases h with rfl | rfl | rfl | rfl | rfl | rfl | rfl | rfl | rfl | rfl | rfl | rfl | rfl | rfl | rfl | rfl | rfl
  · exact (congrArg viewEdtW0 (vget_vset_same _ _ _)).trans (viewEdtW0_write hx _)
  · exact (congrArg (fun d : Desc => (0 : Byte) ++ d.alarmTime) (vget_vset_same _ _ _)).trans (lowByte_append hx)
  · exact (congrArg viewPlanW0 (vget_vset_same _ _ _)).trans (viewPlanW0_write hx _)
  · exact (congrArg (fun d : Plan => d.hrstDelay ++ d.hrstPulse) (vget_vset_same _ _ _)).trans bytes_append
  · exact (congrArg (fun d : Plan => d.pwrDelay ++ d.dwell) (vget_vset_same _ _ _)).trans bytes_append
  · exact (congrArg viewFlCfg (vget_vset_same _ _ _)).trans (viewFlCfg_read hx)
  · exact (congrArg (viewHbCfg q.page) (vget_vset_same _ _ _)).trans (viewHbCfg_write hx _)
  · exact congrArg HbCfg.max (vget_vset_same _ _ _)
  · exact viewLinkCfg_write hx _
  · exact viewLinkCfg2_write hx _
  · exact viewWdCfg_write hx _
  · exact viewWdCfg2_write hx _
  · exact viewEpCfg_write hx _
  · exact viewSupCfg_write hx
  · exact viewOsvCfg_write hx
  · exact viewJrnCfg_read hx
  · exact viewProfCfg_write hx _

/-! ### What a write leaves of the other registers -/

/-- The parts of a profile to which configuration registers belong (R182). -/
inductive CsPart where
  | desc
  | plans
  | fl
  | hb
  | link
  | wd
  | ep
  | sup
  | osv
  | jrn
  | prof

/-- The part to which a configuration register belongs (R182). -/
def csPart (addr : Byte) : CsPart :=
  match addr.toNat with
  | 0x81 => .desc
  | 0x82 => .desc
  | 0x85 => .plans
  | 0x86 => .plans
  | 0x87 => .plans
  | 0x89 => .fl
  | 0x8D => .hb
  | 0x8E => .hb
  | 0x90 => .link
  | 0x91 => .link
  | 0x94 => .wd
  | 0x95 => .wd
  | 0x98 => .ep
  | 0x99 => .sup
  | 0x9A => .osv
  | 0x9C => .jrn
  | _ => .prof

/-- The profiles agree on a part. -/
def sameCsPart (b : CsPart) (p p' : Profile) : Prop :=
  match b with
  | .desc => p'.desc = p.desc
  | .plans => p'.plans = p.plans
  | .fl => p'.fl = p.fl
  | .hb => p'.hb = p.hb
  | .link => p'.link = p.link
  | .wd => p'.wd = p.wd
  | .ep => p'.ep = p.ep
  | .sup => p'.sup = p.sup
  | .osv => p'.osv = p.osv
  | .jrn => p'.jrn = p.jrn
  | .prof => p'.stAtInit = p.stAtInit ∧ p'.profLock = p.profLock

/-- A register shows nothing of a profile but its own part. -/
theorem viewCs_congr {addr : Byte} {p p' : Profile} (h : sameCsPart (csPart addr) p p') (q : Selectors) :
    viewCs addr q p' = viewCs addr q p := by
  unfold viewCs
  split <;> simp_all [csPart, sameCsPart, viewProfCfg]

/-- A write changes nothing of a profile but its register's part. -/
theorem sameCsPart_writeCs {addr : Byte} {b : CsPart} (h : b ≠ csPart addr) (q : Selectors) (x : Word) (p : Profile) :
    sameCsPart b p (writeCs addr q x p) := by
  unfold writeCs
  split <;> cases b <;> simp_all [csPart, sameCsPart]

/-- The pairs of different registers of one part: first the one written, then the one read. -/
def csNeighbours : List (Byte × Byte) :=
  [(0x81, 0x82), (0x82, 0x81), (0x85, 0x86), (0x85, 0x87), (0x86, 0x85), (0x86, 0x87), (0x87, 0x85), (0x87, 0x86),
   (0x8D, 0x8E), (0x8E, 0x8D), (0x90, 0x91), (0x91, 0x90), (0x94, 0x95), (0x95, 0x94)]

/-- Two different registers belong to different parts, or are such a pair. -/
theorem mem_csNeighbours : ∀ addr ∈ csAddrs, ∀ addr' ∈ csAddrs, addr' ≠ addr → csPart addr' = csPart addr →
    (addr, addr') ∈ csNeighbours := by
  simp [csAddrs, csPart, csNeighbours]

/-- Registers of one part show different fields of it. -/
theorem viewCs_writeCs_neighbour {addr addr' : Byte} (h : (addr, addr') ∈ csNeighbours) (q : Selectors) (x : Word)
    (p : Profile) : viewCs addr' q (writeCs addr q x p) = viewCs addr' q p := by
  obtain ⟨_, _, _, _, _, _, _, _, page⟩ := q
  simp only [csNeighbours, List.mem_cons, List.not_mem_nil, or_false, Prod.mk.injEq] at h
  rcases h with ⟨rfl, rfl⟩ | ⟨rfl, rfl⟩ | ⟨rfl, rfl⟩ | ⟨rfl, rfl⟩ | ⟨rfl, rfl⟩ | ⟨rfl, rfl⟩ | ⟨rfl, rfl⟩ | ⟨rfl, rfl⟩ |
    ⟨rfl, rfl⟩ | ⟨rfl, rfl⟩ | ⟨rfl, rfl⟩ | ⟨rfl, rfl⟩ | ⟨rfl, rfl⟩ | ⟨rfl, rfl⟩ <;>
    cases page <;> simp [viewCs, writeCs] <;> rfl

theorem viewCs_writeCs_ne {addr addr' : Byte} (h : addr ∈ csAddrs) (h' : addr' ∈ csAddrs) (hne : addr' ≠ addr)
    (q : Selectors) (x : Word) (p : Profile) : viewCs addr' q (writeCs addr q x p) = viewCs addr' q p := by
  by_cases hpart : csPart addr' = csPart addr
  · exact viewCs_writeCs_neighbour (mem_csNeighbours _ h _ h' hne hpart) q x p
  · exact viewCs_congr (sameCsPart_writeCs hpart q x p) q

/-! ### WRITE_REG of a configuration register -/

/-- Settles O19: the write replaces the staging copy by `writeCs` of it, which `viewCs_writeCs_self` and `viewCs_writeCs_ne` read. -/
theorem stagingWriteReadsBack : Obligations.StagingWriteReadsBack := by
  intro h addr data due p s hcs hs he
  have hmem := mem_csAddrs hcs
  have hrule : runCommand .writeReg (addr ++ data) (accepted h s) =
      okOut ((accepted h s).setProf { s.prof with session := .opn due (writeCs addr s.sel data p) }) := by
    rw [runCommand_write, writeEffect_cs hmem, writeStaging_open (s := accepted h s) hs]
    rfl
  have hcond (i : SrcId) : unitCond s i =
      unitCond ((accepted h s).setProf { s.prof with session := .opn due (writeCs addr s.sel data p) }) i :=
    ((unitCond_setProf (s := accepted h s) rfl rfl i).trans (unitCond_accepted h s i)).symm
  obtain ⟨t, ht, d⟩ := command_outcome [] _ he nofun hrule (only_setProf _ _) rfl (.inr hcond)
  have hprof : t.prof = { s.prof with session := .opn due (writeCs addr s.sel data p) } :=
    d.prof.trans (cancelUnlock_of_open rfl)
  have hsel : t.sel = s.sel := d.rest.same .sel
  have hstaging : csProfile t = writeCs addr s.sel data p := csProfile_open (congrArg ProfileStore.session hprof)
  refine ⟨t, congrArg Host.Outcome.next ht, d.done, d.same hcond, hprof, ?_, fun addr' hcs' hne => ?_⟩
  · rw [regValue_cs hmem, hsel, hstaging]
    exact viewCs_writeCs_self hmem (writeValueOk_of_executes he) p
  · have hmem' := mem_csAddrs hcs'
    rw [regValue_cs hmem', regValue_cs hmem', hsel, hstaging, csProfile_open hs]
    exact viewCs_writeCs_ne hmem hmem' hne s.sel data p

end Sys2Proof.Machine
end

section
/-!
PROOF. One step, by the queue of commands that wait (log 2).
-/

namespace Sys2Proof.Machine

/-- The front of the queue leaves it before its command is performed, so that a command finds only the rest waiting. -/
theorem step_of_pending_cons {c : Instr} {rest : List Instr} {s : State} (h : s.pending = c :: rest) :
    step s = exec c (s.setPending rest) := by
  rw [step, h]

theorem step_of_pending_nil {s : State} (h : s.pending = []) : step s = .next s := by
  rw [step, h]

/-- Settles O1, by the two shapes of the queue. -/
theorem stepTakesFrontCommand : Obligations.StepTakesFrontCommand :=
  ⟨fun _ _ _ h => step_of_pending_cons h, fun _ h => step_of_pending_nil h⟩

end Sys2Proof.Machine
end
